-- ==== Sys2Proof/Word.lean ====
section
/-! DEFINITION. The two word types of the dock link: a byte and a 32-bit word (spec/00_scope.md, Conventions). -/

namespace Sys2Proof

/-- A byte, 8 bits. -/
abbrev Byte := BitVec 8

/-- A word, 4 bytes: the unit in which record bodies are measured. -/
abbrev Word := BitVec 32

end Sys2Proof
end

