-- ==== Sys2Proof/Syntax.lean ====
section
/-! DEFINITION. The commands of the part: one constructor for each row of spec/opcode_table.json.

Each row is one whole, indivisible step of the part (spec/95_what_each_step_holds.md). The table gives no row any field.
A step that brings something in from outside carries it here: the new level of the presence contact, the byte of a data
symbol, the raw state of the key matrix, the pixel that lost its index in DOZE. A step on a record carries nothing: its
operands lie in the frame in hand, at the decoder's record cursor (R25). -/

namespace Sys2Proof

/-- A level of the presence contact, raw or debounced (R2). -/
inductive Contact where
  | opened
  | closed
  deriving DecidableEq, Repr, Inhabited

/-- The commands, in the order of the table. -/
inductive Instr where
  /-- RESET_ASSERT (R163). Assertion of the reset line or power-on ends all work at once and returns every block to its hardware-reset values. -/
  | resetAssert
  /-- RESET_RELEASE (R44). The end of a hardware reset gives the draw engine to the clear pass, which begins writing index 0 from the first pixel. -/
  | resetRelease
  /-- CLEAR_PASS_END (R44). The clear pass writes the last pixel of the store, frees the draw engine and lets the frame decoder take frames. -/
  | clearPassEnd
  /-- PRESENCE_CONTACT_CHANGE (R2). A change of the raw presence contact restarts the stability timer of the presence debouncer. -/
  | presenceContactChange (contact : Contact)
  /-- PRESENCE_CLOSED (R4). The raw contact has been closed for 20 ms, so the debounced presence becomes CLOSED, the link goes from ABSENT to ACQUIRING, and in DOZE this is a wake cause. -/
  | presenceClosed
  /-- PRESENCE_OPEN (R3). The raw contact has been open for 50 ms, so the debounced presence becomes OPEN and the link enters ABSENT, discarding assembly and giving up the upstream side. -/
  | presenceOpen
  /-- LANE_LOCK_GAINED (R1). The receiver recognises the downstream lane and lane lock becomes held, with no change of link state. -/
  | laneLockGained
  /-- LANE_LOCK_LOST (R7). Lane lock is lost, which truncates a frame in assembly and, in UP or QUIET with presence CLOSED, takes the link to ACQUIRING. -/
  | laneLockLost
  /-- START_SYMBOL (R9). A START symbol received with lock held outside ABSENT begins a new frame in the assembly buffer and truncates any frame in progress. -/
  | startSymbol
  /-- DATA_SYMBOL (R9). A data symbol is stored in the assembly buffer; the header length is checked, and the last CRC byte ends the frame. -/
  | dataSymbol (byte : Byte)
  /-- SILENCE_TIMEOUT (R6). The silence timer reaches the silence timeout in UP, so the link goes to QUIET and an outage begins. -/
  | silenceTimeout
  /-- FRAME_TAKE (R23). The idle frame decoder takes the oldest queued frame once its conditions hold, entering SYNC_WAIT or WALKING. -/
  | frameTake
  /-- SLOT_GRANTED (R34). A reply slot becomes free while the decoder is in SLOT_WAIT; it is reserved for the waiting ASK record and the walk continues. -/
  | slotGranted
  /-- UNKNOWN_RECORD (R28). A record whose kind code names no kind is skipped and counted UNKNOWN. -/
  | unknownRecord
  /-- BROKEN_RECORD (R26). A record that runs past the payload end discards the rest of the frame, counts MALFORMED once and finishes the frame. -/
  | brokenRecord
  /-- FILL (R81). A FILL record is checked by the draw engine, clipped to its pane and painted with the pen's fg. -/
  | fill
  /-- CLEAR (R82). A CLEAR record writes the whole named pane to its fill colour and clears the pane's lost field. -/
  | clear
  /-- GLYPH (R84). A GLYPH record expands its one-bit data into fg and bg through the pen, clipped to its pane. -/
  | glyph
  /-- PLANES (R86). A PLANES record writes raw index bits for the planes in the pen's plane mask. -/
  | planes
  /-- MOVE (R89). A MOVE record copies a source rectangle from a snapshot into the named pane, in an order that avoids overlap. -/
  | move
  /-- KEYMOVE (R91). A KEYMOVE record copies like MOVE, but leaves out source pixels that match the key colour under the key care. -/
  | keymove
  /-- DRAW_COMPLETE (R60). The draw engine finishes the destination set of a record, reports it applied and frees the engine. -/
  | drawComplete
  /-- LOAD_PEN (R59). A LOAD_PEN record writes all nine fields of one pen. -/
  | loadPen
  /-- LOAD_PANE (R48). A LOAD_PANE record writes or removes a pane entry and resets its digest fields and lost field. -/
  | loadPane
  /-- LOAD_PALETTE (R109). A LOAD_PALETTE record writes a run of palette entries, clamping channels, and adds the affected pairs to the recompute set. -/
  | loadPalette
  /-- LOAD_SHADE (R111). A LOAD_SHADE record writes one shade set, clamping gains and offsets, and adds its 256 pairs to the recompute set. -/
  | loadShade
  /-- LOAD_KEYMAP (R143). A LOAD_KEYMAP record writes a run of keymap entries of one layer. -/
  | loadKeymap
  /-- LOAD_BANNER (R158). A LOAD_BANNER record writes data words into the banner store. -/
  | loadBanner
  /-- SET_BANNER (R159). A SET_BANNER record sets the banner length. -/
  | setBanner
  /-- SET_VIEW (R121). A SET_VIEW record sets the pending view while the panel is scanning, or the active view at once otherwise. -/
  | setView
  /-- PANEL_START (R129). A PANEL START action requests power-up of the panel by the request table. -/
  | panelStart
  /-- PANEL_STOP (R129). A PANEL STOP action requests power-down of the panel by the request table. -/
  | panelStop
  /-- PANEL_FULL (R134). A PANEL FULL action sets the area mode to FULL, either pending or at once. -/
  | panelFull
  /-- PANEL_PARTIAL (R134). A PANEL PARTIAL action sets the area mode to PARTIAL with a band, either pending or at once. -/
  | panelPartial
  /-- PANEL_IDLE_ON (R134). A PANEL IDLE_ON action turns idle mode on, either pending or at once. -/
  | panelIdleOn
  /-- PANEL_IDLE_OFF (R134). A PANEL IDLE_OFF action turns idle mode off, either pending or at once. -/
  | panelIdleOff
  /-- PANEL_SHOW (R134). A PANEL SHOW action sets the display mode to SHOW, either pending or at once. -/
  | panelShow
  /-- PANEL_BLANK (R134). A PANEL BLANK action sets the display mode to BLANK, either pending or at once. -/
  | panelBlank
  /-- BACKLIGHT (R135). A BACKLIGHT record sets the backlight target. -/
  | backlight
  /-- LAMPS (R147). A LAMPS record sets, clears or toggles lamps 0 to 6 by its two masks. -/
  | lamps
  /-- SET_LINK (R8). A SET_LINK record sets the silence timeout, possibly taking the link to QUIET at once. -/
  | setLink
  /-- SET_KEYS (R140). A SET_KEYS record sets the debounce count, clamped, and the key hold limit. -/
  | setKeys
  /-- SET_OUTAGE (R157). A SET_OUTAGE record sets the banner delay and the doze delay, applying them to the running timers. -/
  | setOutage
  /-- SET_NOTICE (R172). A SET_NOTICE record writes the notice enable mask. -/
  | setNotice
  /-- DOZE (R165). A DOZE record taken in ACTIVE takes the device to ENTERING. -/
  | doze
  /-- RESET (R36). A RESET record performs a soft reset of pens, panes, digest unit, status unit and last-refusal record. -/
  | reset
  /-- CLEAR_COUNTS (R38). A CLEAR_COUNTS record zeroes the 15 counters and the shade-set clip flags. -/
  | clearCounts
  /-- ASK_STATUS (R175). An ASK_STATUS record builds the STATUS reply in a slot, optionally clearing the summary flags. -/
  | askStatus
  /-- ASK_DIGEST (R96). An ASK_DIGEST record becomes the outstanding request, makes NONE or STALE panes PENDING, and is refused BUSY if a request is outstanding. -/
  | askDigest
  /-- ASK_CELL (R55). An ASK_CELL record reads one cell's plane words and a compare word into a reply slot. -/
  | askCell
  /-- ASK_TABLE (R178). An ASK_TABLE record returns one entry of the pen, pane, palette, shade or keymap table. -/
  | askTable
  /-- ASK_ID (R179). An ASK_ID record returns the fixed identification body. -/
  | askId
  /-- DIGEST_RUN_END (R97). A run reads its last pixel, so the pane becomes VALID with its CRC and the unit goes on or examines the request. -/
  | digestRunEnd
  /-- RETENTION_PASS_START (R101). In ENTERING, once the queue is empty, the decoder IDLE, the engine FREE and the digest unit IDLE, the retention pass begins. -/
  | retentionPassStart
  /-- RETENTION_PASS_PANE_DONE (R101). The pass finishes one valid pane, storing its digest as VALID and as its doze digest; after the last pane the device enters DOZE. -/
  | retentionPassPaneDone
  /-- OSCILLATOR_WAIT_END (R170). The 4 ms oscillator wait of WAKING ends and the retention check begins. -/
  | oscillatorWaitEnd
  /-- RETENTION_CHECK_PANE_DONE (R103). The check recomputes one pane's digest and compares it with its doze digest; after the last pane, lost panes are marked and clearing begins or the check ends. -/
  | retentionCheckPaneDone
  /-- RETENTION_CLEAR_PANE_DONE (R104). The retention clearing finishes writing one lost pane to its fill colour and goes on to the next lost pane or ends the check. -/
  | retentionClearPaneDone
  /-- DOZE_TIMER_EXPIRY (R164). The doze timer reaches the doze delay while the device is ACTIVE, so the device enters ENTERING. -/
  | dozeTimerExpiry
  /-- BANNER_DELAY_EXPIRY (R160). The outage timer reaches the banner delay with the flag clear, so a banner play becomes due, or the flag is set if there is no banner. -/
  | bannerDelayExpiry
  /-- BANNER_GRANT (R161). The draw engine is granted to the due banner play, which sets the banner-played flag and starts walking the banner list or ends at once. -/
  | bannerGrant
  /-- BANNER_RECORD_DONE (R162). The engine's outcome for a stored record arrives, and the banner player reads the next header or ends the play, normally or on a structural error. -/
  | bannerRecordDone
  /-- POWER_UP_END (R130). The 120 ms panel power-up ends and the BLANK_FRAMES phase begins with scanning. -/
  | powerUpEnd
  /-- POWER_DOWN_END (R131). The 20 ms power-down ends, the panel reaches OFF, PANEL_READY is set, and a pending START restarts the panel. -/
  | powerDownEnd
  /-- FRAME_END (R127). A panel frame ends: the frame counter advances, pending view and modes latch, blank frames are counted, the backlight steps and SYNC waits are released. -/
  | frameEnd
  /-- KEY_SCAN (R137). A periodic matrix scan takes the raw states and, unless the scan is ghosted, debounces them and processes the accepted breaks and makes. -/
  | keyScan (raw : BitVec 128)
  /-- FLOW_SYMBOL_SEND (R17). The idle transmitter in UP or QUIET sends HOLD or GO for the current flow state and clears the pending flag. -/
  | flowSymbolSend
  /-- KEYS_FRAME_START (R152). The transmitter starts a KEYS frame with up to 8 oldest events, the overrun mark and possibly the held snapshot. -/
  | keysFrameStart
  /-- REPLY_FRAME_START (R19). The transmitter starts a REPLY frame for the earliest finished reply and frees its slot. -/
  | replyFrameStart
  /-- NOTICE_FRAME_START (R174). The transmitter starts a NOTICE frame carrying the summary, clearing those flags and the pending flag. -/
  | noticeFrameStart
  /-- UPSTREAM_FRAME_END (R19). The last CRC byte of an upstream frame is sent and the transmitter returns to IDLE. -/
  | upstreamFrameEnd
  /-- RECOMPUTE_STEP (R116). The recompute job takes the first pair of the recompute set, computes its shaded palette entry and sets clip flags on saturation. -/
  | recomputeStep
  /-- DOZE_PIXEL_LOSS (R43). While the device is in DOZE, the index of any frame-store pixel may change to another value without a write, touching nothing and changing no digest state. -/
  | dozePixelLoss (x y : Nat) (index : Byte)
  deriving DecidableEq, Repr

end Sys2Proof
end

