-- ==== Sys2Proof/Decode.lean ====
section
/-! DEFINITION. The commands that a word spells by the opcode table's bits.

spec/opcode_table.json gives no row a bit pattern (every row's "fields" is empty and none has "fixed" bits): the rows are
the part's steps and events, not encoded instructions. The part's own byte layouts (frames, records, replies: R180, R181)
are read and built in Machine/Operands.lean, Machine/Link.lean and Machine/Upstream.lean. -/

namespace Sys2Proof

/-- No word of any width spells a command, since the table gives no row any bits. -/
def decodeTableWord (_nbits _w : Nat) : Option Instr := none

end Sys2Proof
end

