-- ==== Sys2Proof/Config.lean ====
section
/-! DEFINITION. The free values: what the manual leaves open and the model must not choose.

They are opaque constants with no body. Nothing in Lean can evaluate them, so a claim about the model holds for every
value they could have. Each is applied to State.turn, a plain counter that the step advances at each use. -/

namespace Sys2Proof

/-- DESIGN CHOICE (notes/assumptions/5.md). How many more pixels of the record in hand the draw engine deals with in one
millisecond, at the turn given. The manual quotes drawing rates for planning only (spec/03, after R44). -/
opaque Config.engineProgress : Nat → Nat

/-- DESIGN CHOICE (notes/assumptions/26.md). How many more positions of the panel frame under way the scanout engine sends in
one millisecond, at the turn given. The manual gives the frame rate as nominal (R127). -/
opaque Config.scanProgress : Nat → Nat

/-- DESIGN CHOICE (notes/assumptions/4.md). Which of several events that fall in the same millisecond comes first, at the
turn and the place given. The manual says that either order may occur. -/
opaque Config.eventOrder : Nat → Nat → Nat

end Sys2Proof
end

