-- ==== Sys2Proof/Machine/Table.lean ====
section
/-! DEFINITION. Tables of a fixed number of entries, kept as plain lists that carry their length. -/

namespace Sys2Proof.Machine

/-- A table of `n` entries. -/
structure Table (α : Type) (n : Nat) where
  toList : List α
  size_eq : toList.length = n
  deriving DecidableEq, Repr

/-- The table whose entry `i` is `f i`. -/
def Table.ofFn {α : Type} (n : Nat) (f : Nat → α) : Table α n :=
  ⟨(List.range n).map f, by simp⟩

/-- Entry `i` (the type's default beyond the table, which no rule reads). -/
def Table.get {α : Type} {n : Nat} [Inhabited α] (t : Table α n) (i : Nat) : α := t.toList.getD i default

/-- Entry `i` replaced; nothing beyond the table. -/
def Table.set {α : Type} {n : Nat} (t : Table α n) (i : Nat) (v : α) : Table α n :=
  ⟨t.toList.set i v, by simp [t.size_eq]⟩

/-- Entry `i` changed by `f`. -/
def Table.modify {α : Type} {n : Nat} [Inhabited α] (t : Table α n) (i : Nat) (f : α → α) : Table α n :=
  t.set i (f (t.get i))

/-- Every entry changed, each with its number. -/
def Table.mapIdx {α β : Type} {n : Nat} [Inhabited α] (t : Table α n) (f : Nat → α → β) : Table β n :=
  Table.ofFn n (fun i => f i (t.get i))

/-- The entries `start`, `start + 1`, … replaced by the list's. -/
def Table.setRun {α : Type} {n : Nat} [Inhabited α] (t : Table α n) (start : Nat) (vs : List α) : Table α n :=
  Table.ofFn n (fun i => if start ≤ i then vs.getD (i - start) (t.get i) else t.get i)

/-- The lowest entry number that satisfies `p`. -/
def Table.findFirst {α : Type} {n : Nat} [Inhabited α] (t : Table α n) (p : α → Bool) : Option Nat :=
  (List.range n).find? (fun i => p (t.get i))

end Sys2Proof.Machine
end

