-- ==== Sys2Proof/Machine/State.lean ====
section
/-! DEFINITION. The state of the part, one structure for each block of spec/00_scope.md, and its value after a hardware
reset. Every field cites the rule that gives it; INVENTORY.md lists them with their reset values. -/

namespace Sys2Proof.Machine

/-! ## Link port: the dock link -/

/-- The link state (chapter The dock link, R3). -/
inductive LinkState where
  | absent
  | acquiring
  | up
  | quiet
  deriving DecidableEq, Repr, Inhabited

/-- Frame assembly and its buffer (R9): the bytes gathered so far exist only while a frame is being assembled. -/
inductive Assembly where
  | waiting
  | assembling (buffer : List Byte)
  deriving DecidableEq, Repr, Inhabited

/-- The link port's downstream side. -/
structure LinkPort where
  /-- The link state (R3). -/
  state : LinkState
  /-- The raw state of the presence contact (R2). -/
  contact : Contact
  /-- The debounced presence (R2). -/
  presence : Contact
  /-- The stability timer: milliseconds since the raw contact last changed (R2). -/
  stability : Nat
  /-- Lane lock is held (R1). -/
  laneLock : Bool
  /-- The silence timer: milliseconds since the last good-CRC frame (R6). -/
  silence : Nat
  /-- The silence timeout in milliseconds (R8). -/
  silenceTimeout : Nat
  /-- The expected sequence; none is "unknown" (R12). -/
  expected : Option Byte
  /-- Frame assembly (R9). -/
  assembly : Assembly
  deriving DecidableEq, Repr

/-- The kinds of downstream frame that are admitted (R13). -/
inductive FrameKind where
  | draw
  | ctrl
  deriving DecidableEq, Repr, Inhabited

/-- An entry of the receive queue (R15). -/
structure RxFrame where
  kind : FrameKind
  flags : Byte
  sequence : Byte
  payload : List Byte
  deriving DecidableEq, Repr, Inhabited

/-- The flow state (R16). -/
inductive Flow where
  | go
  | hold
  deriving DecidableEq, Repr, Inhabited

/-- The receive queue, oldest entry first (R15), and the flow state it drives (R16). -/
structure RxQueue where
  frames : List RxFrame
  flow : Flow
  deriving DecidableEq, Repr

/-- The kinds of upstream frame (R18). -/
inductive UpKind where
  | keys
  | reply
  | notice
  deriving DecidableEq, Repr, Inhabited

/-- A frame on the upstream lane: what R19 takes from its source when it starts. -/
structure UpFrame where
  kind : UpKind
  sequence : Byte
  payload : List Byte
  deriving DecidableEq, Repr, Inhabited

/-- The upstream transmitter (R18). -/
inductive Transmitter where
  | idle
  | sending (frame : UpFrame)
  deriving DecidableEq, Repr, Inhabited

/-- The link port's upstream side. -/
structure Upstream where
  /-- IDLE or SENDING (R18), with the frame being sent (R19). -/
  transmitter : Transmitter
  /-- The upstream sequence number the next frame receives (R19). -/
  sequence : Byte
  /-- The flow-symbol pending flag (R17). -/
  flowPending : Bool
  /-- The MODEL's own record of the flow symbol last put on the upstream lane (R17), so that what FLOW_SYMBOL_SEND sends
  can be read. -/
  lastSymbol : Option Flow
  deriving DecidableEq, Repr

/-! ## Frame decoder -/

/-- The decoder's state (R22); while a frame is in hand and its records are being taken, the record cursor. -/
inductive DecoderState where
  | idle
  | syncWait
  | walking (cursor : Nat)
  | slotWait (cursor : Nat)
  deriving DecidableEq, Repr, Inhabited

/-- The reasons of a refusal (R30, R31). -/
inductive Reason where
  | range
  | length
  | misplaced
  | noPane
  | busy
  deriving DecidableEq, Repr, Inhabited

/-- The status of a reply (R35). -/
inductive ReplyStatus where
  | ok
  | range
  | length
  | busy
  deriving DecidableEq, Repr, Inhabited

/-- A reply slot (R33). A finished slot holds the answer and the order of its finishing among the finished slots. -/
inductive Slot where
  | free
  | reserved (kind tag : Byte)
  | finished (kind tag : Byte) (status : ReplyStatus) (body : List Word) (order : Nat)
  deriving DecidableEq, Repr, Inhabited

/-- The last-refusal record (R31): the sequence is absent for a record of the banner store. -/
structure LastRefusal where
  kind : Byte
  tag : Byte
  sequence : Option Byte
  reason : Reason
  deriving DecidableEq, Repr, Inhabited

/-- The frame decoder. The frame in hand is the oldest entry of the receive queue (R22). -/
structure Decoder where
  state : DecoderState
  /-- The four reply slots (R33). -/
  slots : Table Slot 4
  /-- The last-refusal record, or empty (R31). -/
  lastRefusal : Option LastRefusal
  deriving DecidableEq, Repr

/-! ## Pane table, pen table and draw engine -/

/-- The digest state of a pane (R45, R94). The digest value exists only while the state is VALID. -/
inductive DigestState where
  | none
  | pending
  | running
  | valid (digest : BitVec 16)
  | stale
  deriving DecidableEq, Repr, Inhabited

/-- The access of a pane (R45, R53). -/
inductive Access where
  | opened
  | shut
  deriving DecidableEq, Repr, Inhabited

/-- An entry of the pane table (R45). -/
structure Pane where
  valid : Bool
  left : Nat
  top : Nat
  width : Nat
  height : Nat
  access : Access
  shadeSet : Nat
  fill : Byte
  digest : DigestState
  /-- The doze digest, present from a retention pass until the check that follows it or until dropped. -/
  dozeDigest : Option (BitVec 16)
  lost : Bool
  deriving DecidableEq, Repr, Inhabited

/-- The combining operation of a pen (R64). -/
inductive Alu where
  | copy
  | and
  | or
  | xor
  deriving DecidableEq, Repr, Inhabited

/-- The bit order of a pen (R70). -/
inductive BitOrder where
  | msbFirst
  | lsbFirst
  deriving DecidableEq, Repr, Inhabited

/-- An entry of the pen table: the nine fields of R57. -/
structure Pen where
  fg : Byte
  bg : Byte
  opaqueBg : Bool
  alu : Alu
  stipple : Word
  planeMask : Byte
  keyColour : Byte
  keyCare : Byte
  bitOrder : BitOrder
  deriving DecidableEq, Repr, Inhabited

/-- The holder of the draw engine (R72). -/
inductive Holder where
  | free
  | decoder
  | banner
  | retention
  | clearPass
  deriving DecidableEq, Repr, Inhabited

/-- The draw kinds (R77). -/
inductive DrawKind where
  | fill
  | clear
  | glyph
  | planes
  | move
  | keymove
  deriving DecidableEq, Repr, Inhabited

/-- The record the engine is applying: what R60 has it take for the whole record, and the offsets it has still to deal
with, in the engine's order (R61, R90). -/
structure Job where
  kind : DrawKind
  /-- The copy of the named pen; for CLEAR and the retention clearing, the parameters of R71 in its place. -/
  pen : Pen
  /-- The named pane. -/
  pane : Nat
  /-- The frame-store position of the destination pixel at offset (0, 0). -/
  left : Int
  top : Int
  /-- The frame-store position of the source pixel at offset (0, 0), for MOVE and KEYMOVE. -/
  sx : Int
  sy : Int
  /-- The record's w, which fixes the words in a data row (R83, R85). -/
  width : Nat
  /-- The data words, after bit reversal (R70). -/
  data : List Word
  /-- The offsets (i, j) of the destination set still to be dealt with. -/
  todo : List (Nat × Nat)
  deriving DecidableEq, Repr, Inhabited

/-- The draw engine. -/
structure Engine where
  /-- The pen table (R57). -/
  pens : Table Pen 32
  holder : Holder
  /-- The record being applied, if one is. -/
  job : Option Job
  /-- How many pixels the clear pass has written, while it holds the engine (R44, R76), never all: with the last it ends.
  0 otherwise. -/
  cleared : Nat
  deriving DecidableEq, Repr

/-! ## Digest unit -/

/-- The digest unit's work (R94). PASS holds the pane being computed; CHECK holds the pane being compared and the panes
found lost, or, once the comparisons are made, the lost panes still to be cleared, the first of which is being cleared. -/
inductive DigestWork where
  | idle
  | serving
  | pass (pane : Nat)
  | check (pane : Nat) (lost : List Nat)
  | clearing (lost : List Nat)
  deriving DecidableEq, Repr, Inhabited

/-- The outstanding request (chapter Pane digests and retention, R96). -/
structure DigestRequest where
  mask : BitVec 16
  tag : Byte
  slot : Nat
  deriving DecidableEq, Repr, Inhabited

/-- The digest unit. -/
structure DigestUnit where
  work : DigestWork
  /-- The pending set: which panes wait for a run (R97). -/
  pendingSet : Table Bool 16
  /-- The running pane (R97). -/
  running : Option Nat
  request : Option DigestRequest
  deriving DecidableEq, Repr

/-! ## Colour unit -/

/-- Three channels. -/
structure Rgb (α : Type) where
  red : α
  green : α
  blue : α
  deriving DecidableEq, Repr, Inhabited

/-- A palette entry (R107): channels 0 to 1023. -/
structure PaletteEntry where
  colour : Rgb Nat
  fixed : Bool
  deriving DecidableEq, Repr, Inhabited

/-- A shade set (R110): gains 0 to 511, offsets −512 to +511, and the set's clip flag (R115). -/
structure ShadeSet where
  gain : Rgb Nat
  offset : Rgb Int
  clip : Bool
  deriving DecidableEq, Repr, Inhabited

/-- The colour unit. Pair (set, index) has number set × 256 + index in the two tables of pairs. -/
structure ColourUnit where
  palette : Table PaletteEntry 256
  sets : Table ShadeSet 4
  /-- The shaded palette: three panel values 0 to 63 for each pair (R114). -/
  shaded : Table (Rgb Nat) 1024
  /-- The recompute set: which pairs are to be computed again (R116). -/
  recompute : Table Bool 1024
  deriving DecidableEq, Repr

/-! ## Scanout engine and panel sequencer -/

/-- A view (R120). -/
structure View where
  ox : Nat
  oy : Nat
  split : Nat
  sx : Nat
  sy : Nat
  planeEnable : Byte
  swap : Bool
  mirrorX : Bool
  mirrorY : Bool
  deriving DecidableEq, Repr, Inhabited

/-- The scanout engine: the active and the pending view (R120) and the frame counter, 16 bits (R127). -/
structure Scanout where
  active : View
  pendingView : Option View
  /-- How many positions of the panel frame under way have been sent, in raster order (R127): the next is physical line
  `scanned / 1280`, physical column `scanned % 1280`. Never all: with the last the frame ends. 0 while nothing is scanned. -/
  scanned : Nat
  frameCounter : BitVec 16
  deriving DecidableEq, Repr

/-- The panel's power state (R128), with the milliseconds a timed phase has lasted and the count of blank frames ended. -/
inductive PanelState where
  | off
  | powerUp (elapsed : Nat)
  | blankFrames (ended : Nat)
  | running
  | stopping (elapsed : Nat)
  deriving DecidableEq, Repr, Inhabited

/-- The pending request of the panel sequencer (R128). -/
inductive PanelRequest where
  | none
  | start
  | stop
  deriving DecidableEq, Repr, Inhabited

/-- The display mode (R134). -/
inductive Display where
  | show
  | blank
  deriving DecidableEq, Repr, Inhabited

/-- The area mode, with the band of PARTIAL (R134). -/
inductive Area where
  | full
  | band (top bottom : Nat)
  deriving DecidableEq, Repr, Inhabited

/-- The panel sequencer (R128, R134, R135, R136). -/
structure Panel where
  state : PanelState
  request : PanelRequest
  display : Display
  area : Area
  idleMode : Bool
  pendingDisplay : Option Display
  pendingArea : Option Area
  pendingIdle : Option Bool
  /-- The backlight target and actual level, each 0 to 255. -/
  target : Nat
  actual : Nat
  deriving DecidableEq, Repr

/-! ## Key scanner and key queue -/

/-- The action of a keymap entry (R142). -/
inductive KeyAction where
  | key
  | fn
  | lamp (n : Nat)
  | ignore
  deriving DecidableEq, Repr, Inhabited

/-- A keymap entry (R142). -/
structure KeymapEntry where
  code : Byte
  action : KeyAction
  deriving DecidableEq, Repr, Inhabited

/-- An entry of the held set (R144): the layer is 0 or 1. -/
structure HeldKey where
  position : Nat
  code : Byte
  layer : Nat
  action : KeyAction
  deriving DecidableEq, Repr, Inhabited

/-- The key scanner. -/
structure KeyScanner where
  /-- The raw states of the last scan, bit P for position P, 1 pressed (R137). -/
  rawMatrix : BitVec 128
  /-- Milliseconds since the last scan (R137). -/
  sinceScan : Nat
  /-- The accepted states, true is pressed (R139). -/
  accepted : Table Bool 128
  /-- The debounce counters (R139). -/
  counters : Table Nat 128
  /-- The debounce count N (R140). -/
  debounce : Nat
  /-- The keymap, entry P of layer L at L × 128 + P (R142). -/
  keymap : Table KeymapEntry 256
  /-- The held set, in the order of joining (R144). -/
  held : List HeldKey
  /-- The states of lamps 0 to 6, true is on (R147). -/
  lamps : Table Bool 7
  deriving DecidableEq, Repr

/-- The kind of a key event (R149). -/
inductive KeyKind where
  | make
  | break
  deriving DecidableEq, Repr, Inhabited

/-- A key event (R149). -/
structure KeyEvent where
  kind : KeyKind
  code : Byte
  position : Nat
  layer : Nat
  stamp : BitVec 32
  deriving DecidableEq, Repr, Inhabited

/-- The key queue, oldest event first (R150), with its two pending flags (R151) and the key hold limit in milliseconds,
none for "no limit" (R140). -/
structure KeyQueue where
  events : List KeyEvent
  overrunPending : Bool
  snapshotPending : Bool
  holdLimit : Option Nat
  deriving DecidableEq, Repr

/-! ## Outage and power control -/

/-- The device power state (chapter Outages, banner and doze, R163). -/
inductive Device where
  | active
  | entering
  | doze
  | waking
  deriving DecidableEq, Repr, Inhabited

/-- Outage and power control. -/
structure Power where
  device : Device
  /-- The remembered panel state, true is on (R163, R166). -/
  remembered : Bool
  /-- The oscillator wait of WAKING: milliseconds it has lasted, while it lasts (R170). -/
  oscillator : Option Nat
  /-- The outage timer in milliseconds; none is "stopped" (R156). -/
  outage : Option Nat
  /-- The outage's banner-played flag (R156). -/
  bannerPlayed : Bool
  /-- A banner play is due and not yet granted (R160). -/
  bannerDue : Bool
  /-- The banner player's cursor during a play, a byte offset (R162). -/
  bannerCursor : Option Nat
  /-- The banner delay in milliseconds (R157). -/
  bannerDelay : Nat
  /-- The banner store, 256 words (R158). -/
  bannerStore : Table Word 256
  /-- The banner length in bytes (R159). -/
  bannerLength : Nat
  /-- The doze timer in milliseconds (R164). -/
  dozeTimer : Nat
  /-- The doze delay in milliseconds (R157). -/
  dozeDelay : Nat
  deriving DecidableEq, Repr

/-! ## Status unit -/

/-- The status unit. -/
structure Status where
  /-- The event summary, one bit per flag, bit 0 GAP to bit 7 WOKE (R171, R181). -/
  summary : Byte
  /-- The notice enable mask (R172). -/
  noticeMask : Byte
  /-- The NOTICE pending flag (R173). -/
  noticePending : Bool
  /-- The 15 counters, in the order of R177's table. -/
  counters : Table Nat 15
  /-- The millisecond time base (R176). -/
  timeBase : BitVec 32
  deriving DecidableEq, Repr

/-! ## The machine -/

/-- The state of the part. -/
structure State where
  /-- The reset line is asserted (R163). -/
  resetLine : Bool
  link : LinkPort
  rxq : RxQueue
  up : Upstream
  dec : Decoder
  /-- The frame store (R40): pixel (x, y) at address y × 1280 + x, canonical, an unlisted pixel has index 0. -/
  store : List Host.Cell
  panes : Table Pane 16
  engine : Engine
  digest : DigestUnit
  colour : ColourUnit
  scan : Scanout
  panel : Panel
  keys : KeyScanner
  keyq : KeyQueue
  power : Power
  status : Status
  /-- The MODEL's own counter, advanced at each use of a free value of Config. -/
  turn : Nat
  /-- The commands that wait, first in, first out. -/
  pending : List Instr
  deriving DecidableEq, Repr

/-- Why the part stops. -/
inductive Fault where
  /-- Raised by DOZE_PIXEL_LOSS for a pixel the frame store does not have (column above 1279 or row above 1535, R40).
  SAFE: the store has no such pixel, so no part of this kind takes the step. -/
  | noSuchPixel
  deriving DecidableEq, Repr

/-- Why the model gives no answer. -/
inductive Refusal where
  /-- Raised by exec for a command whose meaning is not written. SAFE: it stops. No arm of exec raises it. -/
  | notModelled (mnemonic : String)
  deriving DecidableEq, Repr

/-! ## Values after a hardware reset -/

/-- The pane entries of R46. -/
def Pane.atReset (n : Nat) : Pane :=
  { valid := n == 0, left := 0, top := 0
    width := if n == 0 then 1280 else 1, height := if n == 0 then 1536 else 1
    access := .opened, shadeSet := 0, fill := 0, digest := .none, dozeDigest := none, lost := false }

/-- The pen entries of R57. -/
def Pen.atReset : Pen :=
  { fg := 15, bg := 0, opaqueBg := true, alu := .copy, stipple := 0xFFFFFFFF#32, planeMask := 0xFF
    keyColour := 0, keyCare := 0xFF, bitOrder := .msbFirst }

/-- The palette entries of R107: a grey ramp. -/
def PaletteEntry.atReset (i : Nat) : PaletteEntry :=
  { colour := ⟨i * 4 + i / 64, i * 4 + i / 64, i * 4 + i / 64⟩, fixed := false }

/-- The shade sets of R110. -/
def ShadeSet.atReset : ShadeSet := { gain := ⟨256, 256, 256⟩, offset := ⟨0, 0, 0⟩, clip := false }

/-- The shaded palette entries of R114, for pair number k = set × 256 + index. -/
def shadedAtReset (k : Nat) : Rgb Nat :=
  let p := min 63 (((k % 256) * 4 + (k % 256) / 64 + 8) / 16)
  ⟨p, p, p⟩

/-- The view of R120. -/
def View.atReset : View :=
  { ox := 0, oy := 0, split := 800, sx := 0, sy := 0, planeEnable := 0xFF
    swap := false, mirrorX := false, mirrorY := false }

/-- The keymap entries of R142, for entry number L × 128 + P. -/
def KeymapEntry.atReset (k : Nat) : KeymapEntry := { code := BitVec.ofNat 8 (k % 128), action := .key }

def LinkPort.atReset : LinkPort :=
  { state := .absent, contact := .opened, presence := .opened, stability := 0, laneLock := false
    silence := 0, silenceTimeout := 1000, expected := none, assembly := .waiting }

def Upstream.atReset : Upstream := { transmitter := .idle, sequence := 0, flowPending := false, lastSymbol := none }

def Decoder.atReset : Decoder := { state := .idle, slots := .ofFn 4 (fun _ => .free), lastRefusal := none }

def DigestUnit.atReset : DigestUnit :=
  { work := .idle, pendingSet := .ofFn 16 (fun _ => false), running := none, request := none }

def ColourUnit.atReset : ColourUnit :=
  { palette := .ofFn 256 PaletteEntry.atReset, sets := .ofFn 4 (fun _ => ShadeSet.atReset)
    shaded := .ofFn 1024 shadedAtReset, recompute := .ofFn 1024 (fun _ => false) }

def Panel.atReset : Panel :=
  { state := .off, request := .none, display := .show, area := .full, idleMode := false
    pendingDisplay := none, pendingArea := none, pendingIdle := none, target := 0, actual := 0 }

def KeyScanner.atReset : KeyScanner :=
  { rawMatrix := 0, sinceScan := 0, accepted := .ofFn 128 (fun _ => false), counters := .ofFn 128 (fun _ => 0)
    debounce := 5, keymap := .ofFn 256 KeymapEntry.atReset, held := [], lamps := .ofFn 7 (fun _ => false) }

def KeyQueue.atReset : KeyQueue :=
  { events := [], overrunPending := false, snapshotPending := false, holdLimit := some 2000 }

def Power.atReset : Power :=
  { device := .active, remembered := false, oscillator := none, outage := none, bannerPlayed := false
    bannerDue := false, bannerCursor := none, bannerDelay := 500, bannerStore := .ofFn 256 (fun _ => 0)
    bannerLength := 0, dozeTimer := 0, dozeDelay := 60000 }

def Status.atReset : Status :=
  { summary := 0, noticeMask := 0, noticePending := false, counters := .ofFn 15 (fun _ => 0), timeBase := 0 }

/-- The part at the end of a hardware reset: the line is released and the clear pass holds the draw engine (R44, R72).
The raw contact is OPEN and no index is listed in the store: DESIGN CHOICE (notes/assumptions/1.md, 2.md). -/
def State.reset : State :=
  { resetLine := false, link := .atReset, rxq := { frames := [], flow := .go }, up := .atReset, dec := .atReset
    store := [], panes := .ofFn 16 Pane.atReset
    engine := { pens := .ofFn 32 (fun _ => Pen.atReset), holder := .clearPass, job := none, cleared := 0 }
    digest := .atReset, colour := .atReset
    scan := { active := .atReset, pendingView := none, scanned := 0, frameCounter := 0 }
    panel := .atReset, keys := .atReset, keyq := .atReset, power := .atReset, status := .atReset
    turn := 0, pending := [] }

end Sys2Proof.Machine
end

