-- ==== Sys2Proof/WellFormed.lean ====
section
/-! DEFINITION. Which commands are well formed: the operands that the part's geometry bounds (R40).

Only DOZE_PIXEL_LOSS names a place that need not exist. The operands of the other commands are of types every value of
which is meaningful. -/

namespace Sys2Proof

/-- A frame-store pixel: column 0 to 1279, row 0 to 1535 (R40). -/
def pixelExists (x y : Nat) : Bool := decide (x < 1280) && decide (y < 1536)

/-- The operands of a command are ones the part has. -/
def Instr.wellFormed : Instr → Bool
  | .resetAssert => true
  | .resetRelease => true
  | .clearPassEnd => true
  | .presenceContactChange _ => true
  | .presenceClosed => true
  | .presenceOpen => true
  | .laneLockGained => true
  | .laneLockLost => true
  | .startSymbol => true
  | .dataSymbol _ => true
  | .silenceTimeout => true
  | .frameTake => true
  | .slotGranted => true
  | .unknownRecord => true
  | .brokenRecord => true
  | .fill => true
  | .clear => true
  | .glyph => true
  | .planes => true
  | .move => true
  | .keymove => true
  | .drawComplete => true
  | .loadPen => true
  | .loadPane => true
  | .loadPalette => true
  | .loadShade => true
  | .loadKeymap => true
  | .loadBanner => true
  | .setBanner => true
  | .setView => true
  | .panelStart => true
  | .panelStop => true
  | .panelFull => true
  | .panelPartial => true
  | .panelIdleOn => true
  | .panelIdleOff => true
  | .panelShow => true
  | .panelBlank => true
  | .backlight => true
  | .lamps => true
  | .setLink => true
  | .setKeys => true
  | .setOutage => true
  | .setNotice => true
  | .doze => true
  | .reset => true
  | .clearCounts => true
  | .askStatus => true
  | .askDigest => true
  | .askCell => true
  | .askTable => true
  | .askId => true
  | .digestRunEnd => true
  | .retentionPassStart => true
  | .retentionPassPaneDone => true
  | .oscillatorWaitEnd => true
  | .retentionCheckPaneDone => true
  | .retentionClearPaneDone => true
  | .dozeTimerExpiry => true
  | .bannerDelayExpiry => true
  | .bannerGrant => true
  | .bannerRecordDone => true
  | .powerUpEnd => true
  | .powerDownEnd => true
  | .frameEnd => true
  | .keyScan _ => true
  | .flowSymbolSend => true
  | .keysFrameStart => true
  | .replyFrameStart => true
  | .noticeFrameStart => true
  | .upstreamFrameEnd => true
  | .recomputeStep => true
  | .dozePixelLoss x y _ => pixelExists x y

end Sys2Proof
end

