-- ==== Sys2Proof/Machine/Ops.lean ====
section
/-! DEFINITION. The named operations over bytes, words, the frame store and the pane, pen and colour tables. -/

namespace Sys2Proof.Machine

/-! ## Bytes and words (R180: little-endian) -/

/-- Byte `n` of a word, byte 0 first on the lane. -/
def byteOf (w : Word) (n : Nat) : Byte := w.extractLsb' (8 * n) 8

/-- The 16-bit field in bytes 2n and 2n + 1 of a word. -/
def halfOf (w : Word) (n : Nat) : BitVec 16 := w.extractLsb' (16 * n) 16

/-- A word from its four bytes, byte 0 first. -/
def wordOfBytes (b0 b1 b2 b3 : Byte) : Word := b3 ++ b2 ++ b1 ++ b0

/-- A word from its two 16-bit fields, the lower first. -/
def wordOfHalves (lo hi : BitVec 16) : Word := hi ++ lo

/-- The four bytes of a word in the order they are sent. -/
def bytesOfWord (w : Word) : List Byte := [byteOf w 0, byteOf w 1, byteOf w 2, byteOf w 3]

/-- The two bytes of a 16-bit field in the order they are sent. -/
def bytesOfHalf (h : BitVec 16) : List Byte := [h.extractLsb' 0 8, h.extractLsb' 8 8]

/-- The 16-bit field whose low byte comes first. -/
def halfOfBytes (lo hi : Byte) : BitVec 16 := hi ++ lo

/-- The whole words of a row of bytes. -/
def wordsOf : List Byte → List Word
  | b0 :: b1 :: b2 :: b3 :: rest => wordOfBytes b0 b1 b2 b3 :: wordsOf rest
  | _ => []

/-- A number as a byte field. -/
def byte (n : Nat) : Byte := BitVec.ofNat 8 n

/-- A number as a 16-bit field. -/
def half (n : Nat) : BitVec 16 := BitVec.ofNat 16 n

/-- A truth value as a byte field. -/
def flagByte (b : Bool) : Byte := if b then 1 else 0

/-- Word `n` of a body (0 beyond it, which no rule reads). -/
def wordAt (body : List Word) (n : Nat) : Word := body.getD n 0

/-- Bit i becomes bit 31 − i (R70). -/
def reverseWord (w : Word) : Word := w.reverse

/-! ## CRC-16 (chapter Formats; R93): polynomial 1021h, initial value FFFFh, most significant bit first -/

/-- One bit through the CRC register. -/
def crcBit (c : BitVec 16) : BitVec 16 := if c.msb then (c <<< 1) ^^^ 0x1021#16 else c <<< 1

/-- One byte through the CRC register. -/
def crcByte (c : BitVec 16) (b : Byte) : BitVec 16 := Nat.repeat crcBit 8 (c ^^^ (b.setWidth 16 <<< 8))

/-- The CRC-16 of a row of bytes. -/
def crc16 (bytes : List Byte) : BitVec 16 := bytes.foldl crcByte 0xFFFF#16

/-! ## The frame store -/

/-- The address of pixel (x, y): 1280 pixels to a row (R40). -/
def pixelAddress (x y : Nat) : Nat := y * 1280 + x

/-- What an unlisted pixel holds: index 0, as the clear pass leaves it (R44). -/
def unlistedIndex : Byte := 0

/-- The index at an address. -/
def readCell : List Host.Cell → Nat → Byte
  | [], _ => unlistedIndex
  | (b, w) :: rest, a => if a = b then w else readCell rest a

/-- The store with the index at an address replaced; the list stays in its canonical form. -/
def writeCell : List Host.Cell → Nat → Byte → List Host.Cell
  | [], a, v => if v = unlistedIndex then [] else [(a, v)]
  | (b, w) :: rest, a, v =>
    if a < b then (if v = unlistedIndex then (b, w) :: rest else (a, v) :: (b, w) :: rest)
    else if a = b then (if v = unlistedIndex then rest else (a, v) :: rest)
    else (b, w) :: writeCell rest a v

/-- The store with index 0 at every address from `lo` up to, but not including, `hi`: the addresses that are unlisted. -/
def clearCells (m : List Host.Cell) (lo hi : Nat) : List Host.Cell :=
  m.filter (fun c => decide (c.1 < lo) || decide (hi ≤ c.1))

/-- From address `lo` on: addresses strictly rising, none listed with the index an unlisted one has. -/
def Memory.wfFrom : Nat → List Host.Cell → Bool
  | _, [] => true
  | lo, (a, v) :: rest => decide (lo ≤ a) && decide (v ≠ unlistedIndex) && Memory.wfFrom (a + 1) rest

/-- The canonical form of the frame store's list. -/
def Memory.wf (m : List Host.Cell) : Bool := Memory.wfFrom 0 m

/-- The index of pixel (x, y), the one value every reader sees for it (R40). -/
def State.pixel (s : State) (x y : Nat) : Byte := readCell s.store (pixelAddress x y)

/-- Pixel (x, y) with its index replaced. -/
def State.writePixel (s : State) (x y : Nat) (v : Byte) : State :=
  { s with store := writeCell s.store (pixelAddress x y) v }

/-- The cell number of pixel (x, y) (R41). -/
def cellOf (x y : Nat) : Nat := y * 40 + x / 32

/-- The bit of its cell's plane words that holds column x (R41). -/
def cellBit (x : Nat) : Nat := 31 - x % 32

/-! ## Panes -/

/-- Pixel (x, y) lies in the pane's rectangle (R45). -/
def Pane.contains (p : Pane) (x y : Nat) : Bool :=
  decide (p.left ≤ x) && decide (x < p.left + p.width) && decide (p.top ≤ y) && decide (y < p.top + p.height)

/-- The claiming pane of a pixel: the valid pane with the highest number that contains it (R52). -/
def claimingPane (panes : Table Pane 16) (x y : Nat) : Nat :=
  ((List.range 16).reverse.find? (fun n => (panes.get n).valid && (panes.get n).contains x y)).getD 0

/-- The pane with its entry changed. -/
def State.modifyPane (s : State) (n : Nat) (f : Pane → Pane) : State := { s with panes := s.panes.modify n f }

/-- The pixel indices of a rectangle, rows top to bottom, pixels left to right (R93). -/
def rectPixels (store : List Host.Cell) (left top width height : Nat) : List Byte :=
  (List.range' top height).flatMap fun y => (List.range' left width).map fun x => readCell store (pixelAddress x y)

/-- The digest of a pane: the CRC-16 over its pixel indices as stored (R93). -/
def paneDigest (store : List Host.Cell) (p : Pane) : BitVec 16 :=
  crc16 (rectPixels store p.left p.top p.width p.height)

/-! ## Every command runs only while the reset line is released -/

/-- The effect of a step of the part. While the reset line is asserted nothing works (R163), so the state stays as the
assertion left it: DEDUCED (notes/assumptions/6.md). -/
def live (s : State) (effect : State → State) : Host.Outcome State Fault Refusal :=
  .next (if s.resetLine then s else effect s)

/-- An event that comes about only under a condition. Where the condition does not hold the event does not occur, so
nothing changes: DESIGN CHOICE (notes/assumptions/7.md). -/
def onEvent (s : State) (occurs : Bool) (effect : State → State) : Host.Outcome State Fault Refusal :=
  live s (fun s => if occurs then effect s else s)

end Sys2Proof.Machine
end

