-- ==== Sys2Proof/Machine/Flags.lean ====
section
/-! DEFINITION. The event summary, the NOTICE pending flag and the 15 counters (chapter Status, notices and
identification). -/

namespace Sys2Proof.Machine

/-- The eight flags of the event summary (R171). -/
inductive Flag where
  | gap
  | refused
  | resumed
  | retentionLoss
  | keyOverrun
  | shadeClip
  | panelReady
  | woke
  deriving DecidableEq, Repr

/-- The flag's bit in every mask of the event summary (R181, control record bodies). -/
def Flag.bit : Flag → Nat
  | .gap => 0
  | .refused => 1
  | .resumed => 2
  | .retentionLoss => 3
  | .keyOverrun => 4
  | .shadeClip => 5
  | .panelReady => 6
  | .woke => 7

/-- The mask that holds the flag alone. -/
def Flag.mask (f : Flag) : Byte := 1#8 <<< f.bit

/-- The 15 counters (R177). -/
inductive Counter where
  | badFrame
  | truncated
  | overflow
  | gapFrames
  | lateFrames
  | malformed
  | unknown
  | refused
  | clipped
  | shutDrops
  | keyOverrun
  | staleKeys
  | ghost
  | overroll
  | repliesLost
  deriving DecidableEq, Repr

/-- The counter's place in the order of R177's table. -/
def Counter.index : Counter → Nat
  | .badFrame => 0
  | .truncated => 1
  | .overflow => 2
  | .gapFrames => 3
  | .lateFrames => 4
  | .malformed => 5
  | .unknown => 6
  | .refused => 7
  | .clipped => 8
  | .shutDrops => 9
  | .keyOverrun => 10
  | .staleKeys => 11
  | .ghost => 12
  | .overroll => 13
  | .repliesLost => 14

/-- The value of a counter. -/
def State.counter (s : State) (c : Counter) : Nat := s.status.counters.get c.index

/-- A counter advanced by `k`; an advance above 65535 leaves it at 65535 (R177). -/
def State.count (s : State) (c : Counter) (k : Nat := 1) : State :=
  { s with status := { s.status with counters := s.status.counters.modify c.index (fun v => min 65535 (v + k)) } }

/-- The link state is UP or QUIET: upstream frames are sent (R18). -/
def LinkState.alive : LinkState → Bool
  | .up => true
  | .quiet => true
  | .absent => false
  | .acquiring => false

/-- The flag is set. -/
def State.flag (s : State) (f : Flag) : Bool := s.status.summary.getLsbD f.bit

/-- The flag becomes set; newly set under its enable bit in UP or QUIET, it makes a NOTICE pending (R171, R173). -/
def State.setFlag (s : State) (f : Flag) : State :=
  { s with status :=
      { s.status with
        summary := s.status.summary ||| f.mask
        noticePending := s.status.noticePending ||
          (!s.flag f && s.status.noticeMask.getLsbD f.bit && s.link.state.alive) } }

/-- At a resume a NOTICE becomes pending if a flag is set whose enable bit is 1 (R173). -/
def State.noticeAtResume (s : State) : State :=
  { s with status :=
      { s.status with
        noticePending := s.status.noticePending ||
          (decide (s.status.summary &&& s.status.noticeMask ≠ 0) && s.link.state.alive) } }

/-- A pending NOTICE is dropped; the flags stay (R20, R173). -/
def State.dropNotice (s : State) : State := { s with status := { s.status with noticePending := false } }

/-- The eight flags cleared and a pending NOTICE dropped (R173, R175). -/
def State.clearSummary (s : State) : State :=
  { s with status := { s.status with summary := 0, noticePending := false } }

/-- The 15 counters set to 0 (R38). -/
def State.zeroCounters (s : State) : State :=
  { s with status := { s.status with counters := .ofFn 15 (fun _ => 0) } }

/-- The status unit's part of a soft reset (R37): flags, counters, mask and pending NOTICE; the time base is kept. -/
def State.softResetStatus (s : State) : State :=
  { s with status :=
      { s.status with summary := 0, noticeMask := 0, noticePending := false, counters := .ofFn 15 (fun _ => 0) } }

end Sys2Proof.Machine
end

