-- ==== Sys2Proof/Machine/Operands.lean ====
section
/-! DEFINITION. The operand forms: records and their headers in a payload, the record at the decoder's cursor, the kind
codes of R181, refusals, and the receive queue that holds the frame in hand. -/

namespace Sys2Proof.Machine

/-! ## Records (R25, R181) -/

/-- A record read whole from a payload or from the banner store. The parameter byte is disregarded (R25). -/
structure Record where
  kind : Byte
  tag : Byte
  body : List Word
  deriving DecidableEq, Repr, Inhabited

/-- The bytes a record occupies (R25). -/
def Record.extent (r : Record) : Nat := 4 + 4 * r.body.length

/-- What stands at a place where a header is due: a record, or one that runs past the end (R26). -/
inductive RecordView where
  | whole (r : Record)
  | broken
  deriving DecidableEq, Repr

/-- The record that begins with the first of these bytes; none where no header is left. -/
def readRecord : List Byte → Option RecordView
  | kind :: length :: tag :: _parameter :: rest =>
    if rest.length < 4 * length.toNat then some .broken
    else some (.whole { kind := kind, tag := tag, body := wordsOf (rest.take (4 * length.toNat)) })
  | _ => none

/-- The draw kind of a code (R181). -/
def DrawKind.ofCode (code : Byte) : Option DrawKind :=
  match code.toNat with
  | 0x10 => some .fill
  | 0x11 => some .clear
  | 0x12 => some .glyph
  | 0x13 => some .planes
  | 0x14 => some .move
  | 0x15 => some .keymove
  | _ => none

/-- The code of a draw kind (R181). -/
def DrawKind.code : DrawKind → Byte
  | .fill => 0x10
  | .clear => 0x11
  | .glyph => 0x12
  | .planes => 0x13
  | .move => 0x14
  | .keymove => 0x15

/-- The code names a draw kind. -/
def isDrawCode (code : Byte) : Bool := (DrawKind.ofCode code).isSome

/-- The code names an ASK record (R181). -/
def isAskCode (code : Byte) : Bool := decide (0x38 ≤ code.toNat) && decide (code.toNat ≤ 0x3C)

/-- The code names a control kind: 20h to 31h and the ASK records (R181). -/
def isControlCode (code : Byte) : Bool :=
  (decide (0x20 ≤ code.toNat) && decide (code.toNat ≤ 0x31)) || isAskCode code

/-! ## The receive queue and its flow state (R15, R16) -/

/-- A frame occupies its payload length plus 8 bytes (R14). -/
def RxFrame.occupancy (f : RxFrame) : Nat := f.payload.length + 8

/-- The occupancy of the receive queue (R15). -/
def occupancy (frames : List RxFrame) : Nat := (frames.map RxFrame.occupancy).sum

/-- SYNC is bit 0 of the flags (chapter Formats, frame header). -/
def RxFrame.sync (f : RxFrame) : Bool := f.flags.getLsbD 0

/-- The flow state changes; each change makes a flow symbol pending (R16, R17). -/
def State.setFlow (s : State) (flow : Flow) : State :=
  { s with rxq := { s.rxq with flow := flow }, up := { s.up with flowPending := true } }

/-- Re-evaluation of the flow state at an admission (R16). -/
def State.flowAtAdmission (s : State) : State :=
  if s.rxq.flow = .go ∧ (6144 ≤ occupancy s.rxq.frames ∨ 12 ≤ s.rxq.frames.length) then s.setFlow .hold else s

/-- Re-evaluation of the flow state at a removal (R16). -/
def State.flowAtRemoval (s : State) : State :=
  if s.rxq.flow = .hold ∧ occupancy s.rxq.frames ≤ 2048 ∧ s.rxq.frames.length ≤ 4 then s.setFlow .go else s

/-- The oldest entry leaves the queue (R15). -/
def State.removeFrame (s : State) : State :=
  { s with rxq := { s.rxq with frames := s.rxq.frames.tail } }

def State.setDecoder (s : State) (d : DecoderState) : State := { s with dec := { s.dec with state := d } }

/-- The decoder finishes with the frame in hand: the frame leaves the queue and the decoder is IDLE (R22). -/
def State.finishFrame (s : State) : State := (s.removeFrame.flowAtRemoval).setDecoder .idle

/-- The decoder walks from offset `cursor`; at the end of the payload it has finished with the frame, an empty payload
at once (R25). -/
def State.walkFrom (s : State) (cursor : Nat) : State :=
  match s.rxq.frames with
  | [] => s
  | f :: _ => if f.payload.length ≤ cursor then s.finishFrame else s.setDecoder (.walking cursor)

/-- A SYNC wait ends and the decoder walks the frame from offset 0 (R24). -/
def State.releaseSync (s : State) : State :=
  match s.dec.state with
  | .syncWait => s.walkFrom 0
  | .idle => s
  | .walking _ => s
  | .slotWait _ => s

/-! ## The record at the cursor -/

/-- The cursor of a decoder that is taking records. -/
def DecoderState.cursor? : DecoderState → Option Nat
  | .walking c => some c
  | .slotWait c => some c
  | .idle => none
  | .syncWait => none

/-- The frame in hand and what stands at the cursor, in WALKING or SLOT_WAIT. -/
def State.atCursor (s : State) : Option (RxFrame × RecordView) :=
  match s.dec.state.cursor?, s.rxq.frames with
  | some c, f :: _ => (readRecord (f.payload.drop c)).map (fun v => (f, v))
  | _, _ => none

/-- The decoder is in WALKING. -/
def State.isWalking (s : State) : Bool :=
  match s.dec.state with
  | .walking _ => true
  | .idle => false
  | .syncWait => false
  | .slotWait _ => false

/-- The whole record at the cursor of a decoder in WALKING, with the frame that carries it. -/
def State.record? (s : State) : Option (RxFrame × Record) :=
  if s.isWalking then
    match s.atCursor with
    | some (f, .whole r) => some (f, r)
    | _ => none
  else none

/-- The same, where the record's kind code is `code`. -/
def State.recordOf? (s : State) (code : Byte) : Option (RxFrame × Record) :=
  s.record?.filter (fun fr => decide (fr.2.kind = code))

/-- The record at the cursor has been completed: the cursor moves past it (R25). -/
def State.advance (s : State) (r : Record) : State :=
  match s.dec.state.cursor? with
  | some c => s.walkFrom (c + r.extent)
  | none => s

/-! ## Refusals (R30, R31) -/

/-- A record is refused: REFUSED is counted and set, and the last-refusal record is filled. -/
def State.refuse (s : State) (kind tag : Byte) (sequence : Option Byte) (reason : Reason) : State :=
  let s1 := (s.count .refused).setFlag .refused
  { s1 with dec := { s1.dec with lastRefusal := some { kind := kind, tag := tag, sequence := sequence, reason := reason } } }

/-- The refusal of a record of the frame in hand. -/
def State.refuseRecord (s : State) (f : RxFrame) (r : Record) (reason : Reason) : State :=
  s.refuse r.kind r.tag (some f.sequence) reason

/-- The first check that fails, in order (R30). -/
def firstFailure : List (Bool × Reason) → Option Reason
  | [] => none
  | (passes, reason) :: rest => if passes then firstFailure rest else some reason

/-- The decoder deals with the control record at its cursor, other than an ASK record (R27, R29, R30): misplaced in a
DRAW frame, refused by its first failing check, or given to its owner; in every case the cursor then advances. -/
def takeControl (code : Byte) (check : Record → Option Reason) (effect : Record → State → State) (s : State) : State :=
  match s.recordOf? code with
  | none => s
  | some (f, r) =>
    if f.kind = .draw then (s.refuseRecord f r .misplaced).advance r
    else
      match check r with
      | some reason => (s.refuseRecord f r reason).advance r
      | none => (effect r s).advance r

end Sys2Proof.Machine
end

