-- ==== Sys2Proof/Machine/Panel.lean ====
section
/-! DEFINITION. The scanout engine's view and the panel sequencer: SET_VIEW, the PANEL actions, BACKLIGHT, the ends of the
timed phases and the frame end (R120 to R136). -/

namespace Sys2Proof.Machine

/-! ## Shared operations -/

/-- Panel frames are produced: the blank-frame phase of STARTING and all of RUNNING (R127). -/
def PanelState.scanning : PanelState → Bool
  | .blankFrames _ => true
  | .running => true
  | .off => false
  | .powerUp _ => false
  | .stopping _ => false

/-- The panel is STARTING. -/
def PanelState.starting : PanelState → Bool
  | .powerUp _ => true
  | .blankFrames _ => true
  | .off => false
  | .running => false
  | .stopping _ => false

/-- The panel is STOPPING. -/
def PanelState.isStopping : PanelState → Bool
  | .stopping _ => true
  | .powerUp _ => false
  | .blankFrames _ => false
  | .off => false
  | .running => false

/-- The positions of one panel frame: 800 physical lines of 1280 physical columns (R119, R127). -/
def panelPositions : Nat := 1280 * 800

/-- The scan of the frame under way goes on by some positions, short of the frame's last, after which the frame end comes
(R127). -/
def Scanout.scanOn (v : Scanout) (k : Nat) : Scanout :=
  { v with scanned := min (panelPositions - 1) (v.scanned + k) }

/-- The frame under way is over, at its end or cut short: a pending view becomes the active view (R122), and the next frame
begins at physical line 0, physical column 0 (R127). -/
def Scanout.frameOver (v : Scanout) : Scanout :=
  { v with active := v.pendingView.getD v.active, pendingView := none, scanned := 0 }

/-- A frame end as the scanout engine has it, after the frame's last position (R122, R127): the frame counter advances, and
the frame is over. -/
def Scanout.frameEnd (v : Scanout) : Scanout :=
  { v.frameOver with frameCounter := v.frameCounter + 1 }

/-- Every mode that has a pending value takes it into force (R134). -/
def Panel.latchModes (p : Panel) : Panel :=
  { p with
    display := p.pendingDisplay.getD p.display
    area := p.pendingArea.getD p.area
    idleMode := p.pendingIdle.getD p.idleMode
    pendingDisplay := none
    pendingArea := none
    pendingIdle := none }

def State.setPanelRequest (s : State) (r : PanelRequest) : State := { s with panel := { s.panel with request := r } }

/-- A power-up begins, with no request pending (R129, R131). -/
def State.startPanel (s : State) : State := { s with panel := { s.panel with state := .powerUp 0, request := .none } }

/-- The panel leaves RUNNING for STOPPING (R131): scanning stops with the frame cut short, the backlight goes to 0, pending view and modes apply,
a SYNC wait ends and the power-down begins, with no request pending. -/
def State.stopPanel (s : State) : State :=
  State.releaseSync
    { s with
      scan := s.scan.frameOver
      panel := { s.panel.latchModes with state := .stopping 0, request := .none, actual := 0 } }

/-- A START request, by the table of R129. -/
def State.requestStart (s : State) : State :=
  match s.panel.state with
  | .off => s.startPanel
  | .powerUp _ => s.setPanelRequest .none
  | .blankFrames _ => s.setPanelRequest .none
  | .running => s
  | .stopping _ => s.setPanelRequest .start

/-- A STOP request, by the table of R129. -/
def State.requestStop (s : State) : State :=
  match s.panel.state with
  | .off => s
  | .powerUp _ => s.setPanelRequest .stop
  | .blankFrames _ => s.setPanelRequest .stop
  | .running => s.stopPanel
  | .stopping _ => s.setPanelRequest .none

/-- The backlight's step toward the target, by at most 4 (R136). -/
def backlightStep (actual target : Nat) : Nat :=
  if actual < target then min target (actual + 4)
  else if target < actual then max target (actual - 4)
  else actual

/-- The panel reaches RUNNING: PANEL_READY is set, and a pending STOP stops it at once (R130). -/
def State.reachRunning (s : State) : State :=
  let s1 := State.setFlag { s with panel := { s.panel with state := .running } } .panelReady
  if s1.panel.request = .stop then s1.stopPanel else s1

/-- What a frame end does to the sequencer's power state and the backlight (R130, R136). -/
def State.panelAtFrameEnd (s : State) : State :=
  match s.panel.state with
  | .blankFrames n => if n = 0 then { s with panel := { s.panel with state := .blankFrames 1 } } else s.reachRunning
  | .running => { s with panel := { s.panel with actual := backlightStep s.panel.actual s.panel.target } }
  | .off => s
  | .powerUp _ => s
  | .stopping _ => s

/-! ## SET_VIEW -/

/-- The view a SET_VIEW body carries (chapter Formats). -/
def viewOf (body : List Word) : View :=
  { ox := (halfOf (wordAt body 0) 0).toNat
    oy := (halfOf (wordAt body 0) 1).toNat
    split := (halfOf (wordAt body 1) 0).toNat
    sx := (halfOf (wordAt body 2) 0).toNat
    sy := (halfOf (wordAt body 2) 1).toNat
    planeEnable := byteOf (wordAt body 3) 3
    swap := byteOf (wordAt body 3) 0 == 1
    mirrorX := byteOf (wordAt body 3) 1 == 1
    mirrorY := byteOf (wordAt body 3) 2 == 1 }

/-- A byte that must be 0 or 1. -/
def isBit (b : Byte) : Bool := decide (b.toNat ≤ 1)

/-- The logical height for a swap value (R120). -/
def logicalHeight (swap : Bool) : Nat := if swap then 1280 else 800

/-- The checks of SET_VIEW (R121). -/
def setViewCheck (r : Record) : Option Reason :=
  let v := viewOf r.body
  let w3 := wordAt r.body 3
  firstFailure
    [ (decide (r.body.length = 4), .length),
      (decide (v.ox ≤ 1279) && decide (v.sx ≤ 1279) && decide (v.oy ≤ 1535) && decide (v.sy ≤ 1535), .range),
      (isBit (byteOf w3 0) && isBit (byteOf w3 1) && isBit (byteOf w3 2), .range),
      (decide (v.split ≤ logicalHeight v.swap), .range) ]

/-- An accepted SET_VIEW: pending while the panel is scanning, active at once otherwise (R121). -/
def setViewEffect (r : Record) (s : State) : State :=
  if s.panel.state.scanning then { s with scan := { s.scan with pendingView := some (viewOf r.body) } }
  else { s with scan := { s.scan with active := viewOf r.body } }

/-- SET_VIEW (R121). -/
def execSetView (s : State) : Host.Outcome State Fault Refusal :=
  live s (takeControl 0x27 setViewCheck setViewEffect)

/-! ## PANEL -/

/-- The actions of a PANEL record (R133). -/
inductive PanelAction where
  | start
  | stop
  | full
  | partialBand
  | idleOn
  | idleOff
  | show
  | blank
  deriving DecidableEq, Repr

/-- The action of a code (chapter Formats). -/
def PanelAction.ofCode (code : Byte) : Option PanelAction :=
  match code.toNat with
  | 0 => some .start
  | 1 => some .stop
  | 2 => some .full
  | 3 => some .partialBand
  | 4 => some .idleOn
  | 5 => some .idleOff
  | 6 => some .show
  | 7 => some .blank
  | _ => none

/-- The action that the body of a PANEL record names; none for an empty body or an unknown code. -/
def panelActionOf (r : Record) : Option PanelAction :=
  match r.body with
  | [] => none
  | w :: _ => PanelAction.ofCode (byteOf w 0)

def bandTop (r : Record) : Nat := (halfOf (wordAt r.body 1) 0).toNat
def bandBottom (r : Record) : Nat := (halfOf (wordAt r.body 1) 1).toNat

/-- The checks of PANEL (R133). -/
def panelCheck (r : Record) : Option Reason :=
  firstFailure
    [ (decide (r.body.length = 2), .length),
      ((panelActionOf r).isSome, .range),
      (decide (panelActionOf r ≠ some .partialBand) ||
        (decide (bandBottom r ≤ 799) && decide (bandTop r ≤ bandBottom r)), .range) ]

/-- The PANEL record at the cursor is dealt with by the step of its action. A PANEL record that names no action can only
be refused, and each of the eight steps deals with it: DESIGN CHOICE (notes/assumptions/8.md). -/
def takePanel (action : PanelAction) (effect : Record → State → State) (s : State) : State :=
  match s.recordOf? 0x28 with
  | none => s
  | some (_, r) =>
    if panelActionOf r = some action ∨ panelActionOf r = none then takeControl 0x28 panelCheck effect s else s

/-- A display action: pending while the panel is scanning, in force at once otherwise (R134). -/
def State.setDisplay (s : State) (m : Display) : State :=
  if s.panel.state.scanning then { s with panel := { s.panel with pendingDisplay := some m } }
  else { s with panel := { s.panel with display := m } }

/-- An area action (R134). -/
def State.setArea (s : State) (m : Area) : State :=
  if s.panel.state.scanning then { s with panel := { s.panel with pendingArea := some m } }
  else { s with panel := { s.panel with area := m } }

/-- An idle action (R134). -/
def State.setIdle (s : State) (m : Bool) : State :=
  if s.panel.state.scanning then { s with panel := { s.panel with pendingIdle := some m } }
  else { s with panel := { s.panel with idleMode := m } }

/-- PANEL START (R129, R133). -/
def execPanelStart (s : State) : Host.Outcome State Fault Refusal :=
  live s (takePanel .start (fun _ => State.requestStart))

/-- PANEL STOP (R129, R133). -/
def execPanelStop (s : State) : Host.Outcome State Fault Refusal :=
  live s (takePanel .stop (fun _ => State.requestStop))

/-- PANEL FULL (R134). -/
def execPanelFull (s : State) : Host.Outcome State Fault Refusal :=
  live s (takePanel .full (fun _ s => s.setArea .full))

/-- PANEL PARTIAL with its band (R134). -/
def execPanelPartial (s : State) : Host.Outcome State Fault Refusal :=
  live s (takePanel .partialBand (fun r s => s.setArea (.band (bandTop r) (bandBottom r))))

/-- PANEL IDLE_ON (R134). -/
def execPanelIdleOn (s : State) : Host.Outcome State Fault Refusal :=
  live s (takePanel .idleOn (fun _ s => s.setIdle true))

/-- PANEL IDLE_OFF (R134). -/
def execPanelIdleOff (s : State) : Host.Outcome State Fault Refusal :=
  live s (takePanel .idleOff (fun _ s => s.setIdle false))

/-- PANEL SHOW (R134). -/
def execPanelShow (s : State) : Host.Outcome State Fault Refusal :=
  live s (takePanel .show (fun _ s => s.setDisplay .show))

/-- PANEL BLANK (R134). -/
def execPanelBlank (s : State) : Host.Outcome State Fault Refusal :=
  live s (takePanel .blank (fun _ s => s.setDisplay .blank))

/-! ## BACKLIGHT -/

/-- The check of a record whose only check is its fixed length. -/
def lengthCheck (words : Nat) (r : Record) : Option Reason := firstFailure [(decide (r.body.length = words), .length)]

/-- BACKLIGHT (R135): the target is set at once, the actual level is not changed. -/
def execBacklight (s : State) : Host.Outcome State Fault Refusal :=
  live s (takeControl 0x29 (lengthCheck 1)
    (fun r s => { s with panel := { s.panel with target := (byteOf (wordAt r.body 0) 0).toNat } }))

/-! ## The ends of the timed phases and the frame end -/

/-- The 120 ms power-up has ended (R130). -/
def powerUpDue (s : State) : Bool :=
  match s.panel.state with
  | .powerUp t => decide (120 ≤ t)
  | .off => false
  | .blankFrames _ => false
  | .running => false
  | .stopping _ => false

/-- POWER_UP_END (R130): the blank-frame phase begins with a count of 0, and scanning with it, at the first position of a
frame (R127). -/
def execPowerUpEnd (s : State) : Host.Outcome State Fault Refusal :=
  onEvent s (powerUpDue s) (fun s =>
    { s with
      scan := { s.scan with scanned := 0 }
      panel := { s.panel with state := .blankFrames 0 } })

/-- The 20 ms power-down has ended (R131). -/
def powerDownDue (s : State) : Bool :=
  match s.panel.state with
  | .stopping t => decide (20 ≤ t)
  | .off => false
  | .blankFrames _ => false
  | .running => false
  | .powerUp _ => false

/-- The panel reaches OFF: PANEL_READY is set, and a pending START starts it at once (R131). -/
def State.reachOff (s : State) : State :=
  let s1 := State.setFlag { s with panel := { s.panel with state := .off } } .panelReady
  if s1.panel.request = .start then s1.startPanel else s1

/-- POWER_DOWN_END (R131). -/
def execPowerDownEnd (s : State) : Host.Outcome State Fault Refusal :=
  onEvent s (powerDownDue s) State.reachOff

/-- FRAME_END (R127): the positions that are left are sent, the last of physical line 799 last of all (State.sentNext lists
them in their order, notes/assumptions/26.md). Then the frame counter advances, a pending view and pending modes are taken into force, a blank frame is
counted or the backlight steps, and a SYNC wait is released. -/
def execFrameEnd (s : State) : Host.Outcome State Fault Refusal :=
  onEvent s s.panel.state.scanning (fun s =>
    State.releaseSync (State.panelAtFrameEnd
      { s with
        scan := s.scan.frameEnd
        panel := s.panel.latchModes }))

end Sys2Proof.Machine
end

