-- ==== Sys2Proof/Machine/Upstream.lean ====
section
/-! DEFINITION. The reply slots (R33, R21) and the upstream transmitter: flow symbols and KEYS, REPLY and NOTICE frames
(R17 to R20, R152, R153, R174). -/

namespace Sys2Proof.Machine

/-! ## Reply slots -/

/-- The slot is FREE. -/
def Slot.isFree : Slot → Bool
  | .free => true
  | .reserved _ _ => false
  | .finished _ _ _ _ _ => false

/-- The slot is FINISHED. -/
def Slot.isFinished : Slot → Bool
  | .finished _ _ _ _ _ => true
  | .free => false
  | .reserved _ _ => false

/-- The order of finishing that a finished slot notes. -/
def Slot.order : Slot → Nat
  | .finished _ _ _ _ k => k
  | .free => 0
  | .reserved _ _ => 0

/-- The FREE slot that is reserved next, the lowest-numbered: DESIGN CHOICE (notes/assumptions/9.md). -/
def State.freeSlot (s : State) : Option Nat := s.dec.slots.findFirst Slot.isFree

def State.setSlot (s : State) (n : Nat) (v : Slot) : State :=
  { s with dec := { s.dec with slots := s.dec.slots.set n v } }

/-- The order noted by the next slot to finish: above that of every finished slot (R33). -/
def nextOrder (slots : Table Slot 4) : Nat := slots.toList.foldl (fun m sl => max m (sl.order + 1)) 0

/-- The answer is finished into slot `n` (R33). In ABSENT and ACQUIRING it is lost as soon as it is finished: the slot is
freed and REPLIES_LOST is counted (R21). -/
def State.finishReply (s : State) (n : Nat) (kind tag : Byte) (status : ReplyStatus) (body : List Word) : State :=
  if s.link.state.alive then s.setSlot n (.finished kind tag status body (nextOrder s.dec.slots))
  else (s.setSlot n .free).count .repliesLost

/-- The finished slots. -/
def finishedSlots (slots : Table Slot 4) : List Nat := (List.range 4).filter (fun n => (slots.get n).isFinished)

/-- The finished slot whose reply was finished earliest (R18). -/
def oldestFinished (slots : Table Slot 4) : Option Nat :=
  (finishedSlots slots).find? (fun n => (finishedSlots slots).all (fun m => (slots.get n).order ≤ (slots.get m).order))

/-- The upstream side of the link is given up (R20): finished replies are emptied and counted, a pending NOTICE is
dropped; reserved slots, the key queue, a frame being sent and the flow-symbol pending flag are kept. -/
def State.giveUpUpstream (s : State) : State :=
  let n := (finishedSlots s.dec.slots).length
  let s1 := { s with dec := { s.dec with
    slots := s.dec.slots.mapIdx (fun _ sl => if sl.isFinished then .free else sl) } }
  (s1.count .repliesLost n).dropNotice

/-! ## Frames on the upstream lane (R19, R180) -/

/-- The kind code of an upstream frame (chapter Formats). -/
def UpKind.code : UpKind → Byte
  | .keys => 0x81
  | .reply => 0x82
  | .notice => 0x83

/-- The header of an upstream frame: kind, flags 0, sequence, reserved 0, payload length. -/
def UpFrame.header (f : UpFrame) : List Byte :=
  [f.kind.code, 0, f.sequence, 0] ++ bytesOfHalf (half f.payload.length)

/-- Every byte of the frame in the order it is sent after START: header, payload, and the CRC-16 over both, low byte
first. -/
def UpFrame.bytes (f : UpFrame) : List Byte :=
  f.header ++ f.payload ++ bytesOfHalf (crc16 (f.header ++ f.payload))

/-- The code of a reply status (chapter Formats). -/
def ReplyStatus.code : ReplyStatus → Byte
  | .ok => 0
  | .range => 1
  | .length => 2
  | .busy => 3

/-- The payload of a REPLY frame: word 0, then the answer body. -/
def replyPayload (kind tag : Byte) (status : ReplyStatus) (body : List Word) : List Byte :=
  [kind, tag, status.code, 0] ++ body.flatMap bytesOfWord

/-- The code of a key event kind (chapter Formats). -/
def KeyKind.code : KeyKind → Byte
  | .make => 0
  | .break => 1

/-- The eight bytes of a key event in a KEYS payload; the stamp's low 16 bits (R149). -/
def KeyEvent.bytes (e : KeyEvent) : List Byte :=
  [e.kind.code, e.code, byte e.position, byte e.layer] ++ bytesOfHalf (e.stamp.setWidth 16) ++ [0, 0]

/-- The four bytes of a snapshot entry (chapter Formats). -/
def HeldKey.bytes (h : HeldKey) : List Byte := [byte h.position, h.code, 0, 0]

/-- The events a KEYS frame takes: up to 8, oldest first (R152). -/
def keysTaken (q : KeyQueue) : List KeyEvent := q.events.take 8

/-- A KEYS frame that starts now carries the held snapshot (R153). -/
def carriesSnapshot (q : KeyQueue) : Bool := q.snapshotPending && decide (q.events.length ≤ 8)

/-- The payload of a KEYS frame that starts now (R152, R153). -/
def keysPayload (q : KeyQueue) (held : List HeldKey) : List Byte :=
  let snapshot := if carriesSnapshot q then held else []
  [byte (keysTaken q).length, flagByte q.overrunPending, flagByte (carriesSnapshot q), byte snapshot.length]
    ++ (keysTaken q).flatMap KeyEvent.bytes ++ snapshot.flatMap HeldKey.bytes

/-- The payload of a NOTICE frame that starts now (R174). -/
def noticePayload (st : Status) : List Byte :=
  [st.summary, st.noticeMask] ++ bytesOfHalf (st.timeBase.setWidth 16)

/-- A frame is started: it receives the current upstream sequence number, which then advances (R19). -/
def State.startFrame (s : State) (kind : UpKind) (payload : List Byte) : State :=
  { s with up := { s.up with
      transmitter := .sending { kind := kind, sequence := s.up.sequence, payload := payload }
      sequence := s.up.sequence + 1 } }

/-! ## Which source is served (R17, R18) -/

/-- The transmitter is IDLE in UP or QUIET. -/
def State.txReady (s : State) : Bool := s.link.state.alive && decide (s.up.transmitter = .idle)

/-- A flow symbol is sent now (R17). -/
def flowSymbolDue (s : State) : Bool := s.txReady && s.up.flowPending

/-- A KEYS frame starts now (R18). -/
def keysDue (s : State) : Bool := s.txReady && !s.up.flowPending && !s.keyq.events.isEmpty

/-- A REPLY frame starts now (R18). -/
def replyDue (s : State) : Bool :=
  s.txReady && !s.up.flowPending && s.keyq.events.isEmpty && (oldestFinished s.dec.slots).isSome

/-- A NOTICE frame starts now (R18). -/
def noticeDue (s : State) : Bool :=
  s.txReady && !s.up.flowPending && s.keyq.events.isEmpty && (oldestFinished s.dec.slots).isNone &&
    s.status.noticePending

/-- FLOW_SYMBOL_SEND (R17): one symbol for the flow state at this moment; the pending flag is cleared. -/
def execFlowSymbolSend (s : State) : Host.Outcome State Fault Refusal :=
  onEvent s (flowSymbolDue s) (fun s =>
    { s with up := { s.up with flowPending := false, lastSymbol := some s.rxq.flow } })

/-- KEYS_FRAME_START (R152, R153): up to 8 events leave the queue; a snapshot taken clears both pending flags. -/
def execKeysFrameStart (s : State) : Host.Outcome State Fault Refusal :=
  onEvent s (keysDue s) (fun s =>
    let s1 := s.startFrame .keys (keysPayload s.keyq s.keys.held)
    { s1 with keyq := { s.keyq with
        events := s.keyq.events.drop 8
        overrunPending := s.keyq.overrunPending && !carriesSnapshot s.keyq
        snapshotPending := s.keyq.snapshotPending && !carriesSnapshot s.keyq } })

/-- REPLY_FRAME_START (R18, R19): the earliest finished reply leaves its slot, which becomes free. -/
def execReplyFrameStart (s : State) : Host.Outcome State Fault Refusal :=
  onEvent s (replyDue s) (fun s =>
    match oldestFinished s.dec.slots with
    | some n =>
      match s.dec.slots.get n with
      | .finished kind tag status body _ => (s.startFrame .reply (replyPayload kind tag status body)).setSlot n .free
      | .free => s
      | .reserved _ _ => s
    | none => s)

/-- NOTICE_FRAME_START (R174): the whole summary is carried and cleared, and so is the pending flag. -/
def execNoticeFrameStart (s : State) : Host.Outcome State Fault Refusal :=
  onEvent s (noticeDue s) (fun s => (s.startFrame .notice (noticePayload s.status)).clearSummary)

/-- UPSTREAM_FRAME_END (R19): the last CRC byte is sent, whatever the link state, and the transmitter is IDLE. -/
def execUpstreamFrameEnd (s : State) : Host.Outcome State Fault Refusal :=
  live s (fun s => { s with up := { s.up with transmitter := .idle } })

end Sys2Proof.Machine
end

