-- ==== Sys2Proof/Machine/Digest.lean ====
section
/-! DEFINITION. The digest unit and the touch rule (R50, R54, R93 to R100). -/

namespace Sys2Proof.Machine

/-- The pane's digest is PENDING or RUNNING. -/
def DigestState.inPreparation : DigestState → Bool
  | .pending => true
  | .running => true
  | .none => false
  | .valid _ => false
  | .stale => false

/-- The panes of a mask, in ascending number (bit n for pane n, R95). -/
def panesOfMask (mask : BitVec 16) : List Nat := (List.range 16).filter (fun n => mask.getLsbD n)

def State.setWork (s : State) (w : DigestWork) : State := { s with digest := { s.digest with work := w } }

def State.setDigestState (s : State) (n : Nat) (d : DigestState) : State :=
  s.modifyPane n (fun p => { p with digest := d })

/-! ## The reply of a request (R99) -/

/-- The code of a digest state (chapter Formats). -/
def DigestState.code : DigestState → Byte
  | .none => 0
  | .pending => 1
  | .running => 2
  | .valid _ => 3
  | .stale => 4

/-- The digest value, sent as 0 where it is absent (R180). -/
def DigestState.value : DigestState → BitVec 16
  | .valid v => v
  | .none => 0
  | .pending => 0
  | .running => 0
  | .stale => 0

/-- The entry of pane `n` in the reply. -/
def digestEntry (panes : Table Pane 16) (n : Nat) : Word :=
  let d := (panes.get n).digest
  wordOfBytes (byte n) d.code (byteOf (wordOfHalves d.value 0) 0) (byteOf (wordOfHalves d.value 0) 1)

/-- The answer body for a mask (chapter Formats). -/
def digestBody (panes : Table Pane 16) (mask : BitVec 16) : List Word :=
  wordOfBytes (byte (panesOfMask mask).length) 0 0 0 :: (panesOfMask mask).map (digestEntry panes)

/-- No pane of the mask is PENDING or RUNNING (R99). -/
def requestComplete (panes : Table Pane 16) (mask : BitVec 16) : Bool :=
  (panesOfMask mask).all (fun n => !(panes.get n).digest.inPreparation)

/-- The request is examined; complete, its reply is built into its slot and the unit is IDLE (R99). -/
def State.examineRequest (s : State) : State :=
  match s.digest.request with
  | none => s
  | some q =>
    if requestComplete s.panes q.mask then
      State.finishReply
        { s with digest := { s.digest with work := .idle, request := none } }
        q.slot 0x39 q.tag .ok (digestBody s.panes q.mask)
    else s

/-- With no pane running: the lowest-numbered pending pane becomes the running pane (R97), or, with none pending, the
request is examined. -/
def State.digestGoOn (s : State) : State :=
  match s.digest.pendingSet.findFirst id with
  | some n =>
    State.setDigestState
      { s with digest := { s.digest with pendingSet := s.digest.pendingSet.set n false, running := some n } }
      n .running
  | none => s.examineRequest

/-- A run is abandoned and the unit goes on (R98). -/
def State.abandonRun (s : State) : State :=
  State.digestGoOn { s with digest := { s.digest with running := none } }

/-! ## Touched pixels (R54) -/

/-- The digest state after a touch. -/
def DigestState.touched : DigestState → DigestState
  | .none => .none
  | .pending => .pending
  | .running => .stale
  | .valid _ => .stale
  | .stale => .stale

/-- A valid pane that a write hits: it contains a touched pixel. -/
def Pane.touchedBy (hit : Pane → Bool) (p : Pane) : Pane :=
  if p.valid && hit p then { p with digest := p.digest.touched } else p

/-- The writes hit the running pane. -/
def hitsRun (s : State) (hit : Pane → Bool) : Bool :=
  match s.digest.running with
  | some n => (s.panes.get n).valid && hit (s.panes.get n)
  | none => false

/-- Pixels are touched: every valid pane that contains one of them changes its digest state, and a run of such a pane is
abandoned. -/
def State.touchWhere (s : State) (hit : Pane → Bool) : State :=
  let s1 := { s with panes := s.panes.mapIdx (fun _ p => p.touchedBy hit) }
  if hitsRun s hit then s1.abandonRun else s1

/-- Pixel (x, y) is touched. -/
def State.touch (s : State) (x y : Nat) : State := s.touchWhere (fun p => p.contains x y)

/-! ## The steps of the unit -/

/-- DIGEST_RUN_END (R97): the pane becomes VALID with its CRC, and the unit takes the next pending pane or examines the
request. -/
def execDigestRunEnd (s : State) : Host.Outcome State Fault Refusal :=
  live s (fun s =>
    match s.digest.running with
    | some n =>
      State.digestGoOn
        { s.setDigestState n (.valid (paneDigest s.store (s.panes.get n))) with
          digest := { s.digest with running := none } }
    | none => s)

/-- An accepted ASK_DIGEST becomes the outstanding request (R96). -/
def State.acceptDigestRequest (s : State) (q : DigestRequest) : State :=
  let joins (n : Nat) (p : Pane) : Bool :=
    p.valid && q.mask.getLsbD n &&
      (match p.digest with
       | .none => true
       | .stale => true
       | .pending => false
       | .running => false
       | .valid _ => false)
  let s1 := { s with
    panes := s.panes.mapIdx (fun n p => if joins n p then { p with digest := .pending } else p)
    digest := { s.digest with
      work := .serving
      request := some q
      pendingSet := s.digest.pendingSet.mapIdx (fun n b => b || joins n (s.panes.get n)) } }
  if s1.digest.running = none then s1.digestGoOn else s1

/-- A LOAD_PANE reaches pane `n` in the digest unit (R50): the state becomes NONE, a pending pane leaves the set and a run
is abandoned. -/
def State.forgetPane (s : State) (n : Nat) : State :=
  let s1 := s.setDigestState n .none
  if s.digest.running = some n then s1.abandonRun
  else if s.digest.pendingSet.get n then
    let s2 := { s1 with digest := { s1.digest with pendingSet := s1.digest.pendingSet.set n false } }
    s2.examineRequest
  else s1

/-- The digest unit's part of a soft reset (R94, R100): a run is abandoned, the pending set is emptied and an outstanding
request is dropped without a reply, its slot freed. -/
def State.softResetDigest (s : State) : State :=
  let s1 := match s.digest.request with
    | some q => s.setSlot q.slot .free
    | none => s
  { s1 with digest := DigestUnit.atReset }

end Sys2Proof.Machine
end

