-- ==== Sys2Proof/Machine/Draw.lean ====
section
/-! DEFINITION. The draw engine: the checks and clipping of a draw record, the pixel rule, and the steps that give the
engine a record and finish it (R57 to R92). -/

namespace Sys2Proof.Machine

/-! ## The pixel rule (R62 to R70) -/

/-- The ALU result (R64). -/
def Alu.apply : Alu → Byte → Byte → Byte
  | .copy, a, _ => a
  | .and, a, l => a &&& l
  | .or, a, l => a ||| l
  | .xor, a, l => a ^^^ l

/-- The pen's stipple enables column X (R67). -/
def Pen.stippleBit (p : Pen) (x : Nat) : Bool := p.stipple.getLsbD (31 - x % 32)

/-- The key test passes: the source differs from the key colour in a plane of the key care (R69). -/
def Pen.keyTest (p : Pen) (source : Byte) : Bool := decide ((source ^^^ p.keyColour) &&& p.keyCare ≠ 0)

/-- The new index of a pixel: the ALU result in the planes of the mask where the enable is 1, the latch elsewhere (R66). -/
def Pen.newIndex (p : Pen) (enable : Bool) (operand latch : Byte) : Byte :=
  if enable then (p.alu.apply operand latch &&& p.planeMask) ||| (latch &&& ~~~p.planeMask) else latch

/-- The number of words in a row of one-bit pixels (R83). -/
def rowWords (w : Nat) : Nat := (w + 31) / 32

/-- The planes set in a mask, in ascending order (R85). -/
def planesOfMask (mask : Byte) : List Nat := (List.range 8).filter (fun p => mask.getLsbD p)

/-- The number of planes set in a mask (R77). -/
def popcount (mask : Byte) : Nat := (planesOfMask mask).length

/-- The rank of plane `p` among the planes of the mask (R85). -/
def planeRank (mask : Byte) (p : Nat) : Nat := ((List.range p).filter (fun q => mask.getLsbD q)).length

/-- Record pixel `i` of the row that begins at data word `base` (R83). -/
def dataBit (data : List Word) (base i : Nat) : Bool := (wordAt data (base + i / 32)).getLsbD (31 - i % 32)

/-- The glyph bit of offset (i, j) (R83, R84). -/
def Job.glyphBit (job : Job) (i j : Nat) : Bool := dataBit job.data (j * rowWords job.width) i

/-- The data bit of offset (i, j) for plane `p` of the pen's mask (R85, R86). -/
def Job.planeBit (job : Job) (p i j : Nat) : Bool :=
  dataBit job.data
    ((j * popcount job.pen.planeMask + planeRank job.pen.planeMask p) * rowWords job.width) i

/-- The PLANES operand of offset (i, j): 0 in every plane outside the mask (R63, R86). -/
def Job.planesOperand (job : Job) (i j : Nat) : Byte :=
  (planesOfMask job.pen.planeMask).foldl (fun a p => if job.planeBit p i j then a ||| (1#8 <<< p) else a) 0

/-- The frame-store column and row of the destination pixel at offset (i, j). -/
def Job.column (job : Job) (i : Nat) : Nat := (job.left + i).toNat
def Job.row (job : Job) (j : Nat) : Nat := (job.top + j).toNat

/-- The index of the source pixel of offset (i, j), read immediately before the destination is written. The order of R90
ensures that the record has not yet written it. -/
def Job.source (job : Job) (store : List Host.Cell) (i j : Nat) : Byte :=
  readCell store (pixelAddress (job.sx + i).toNat (job.sy + j).toNat)

/-- The operand A of offset (i, j) (R63). -/
def Job.operand (job : Job) (store : List Host.Cell) (i j : Nat) : Byte :=
  match job.kind with
  | .fill => job.pen.fg
  | .clear => job.pen.fg
  | .glyph => if job.glyphBit i j then job.pen.fg else job.pen.bg
  | .planes => job.planesOperand i j
  | .move => job.source store i j
  | .keymove => job.source store i j

/-- The condition of the enable that belongs to the record kind (R65, conditions 3 and 4). -/
def Job.kindEnable (job : Job) (operand : Byte) (i j : Nat) : Bool :=
  match job.kind with
  | .glyph => job.pen.opaqueBg || job.glyphBit i j
  | .keymove => job.pen.keyTest operand
  | .fill => true
  | .clear => true
  | .planes => true
  | .move => true

/-- The enable E of offset (i, j) (R65). -/
def Job.enable (job : Job) (store : List Host.Cell) (i j : Nat) : Bool :=
  job.pen.stippleBit (job.column i) && job.kindEnable (job.operand store i j) i j

/-- The index that offset (i, j) writes over a store (R62 to R66). -/
def Job.result (job : Job) (store : List Host.Cell) (i j : Nat) : Byte :=
  job.pen.newIndex (job.enable store i j) (job.operand store i j)
    (readCell store (pixelAddress (job.column i) (job.row j)))

/-- The write touches the pixel of offset (i, j) (R66). -/
def Job.touches (job : Job) (store : List Host.Cell) (i j : Nat) : Bool :=
  job.enable store i j && decide (job.pen.planeMask ≠ 0)

/-- One pixel of the destination set is dealt with whole (R61): written by the pixel rule, and touched where R66 says so. -/
def State.paintPixel (s : State) (job : Job) (o : Nat × Nat) : State :=
  let s1 := s.writePixel (job.column o.1) (job.row o.2) (job.result s.store o.1 o.2)
  if job.touches s.store o.1 o.2 then s1.touch (job.column o.1) (job.row o.2) else s1

/-- A list of offsets dealt with in order. -/
def State.paint (s : State) (job : Job) (offsets : List (Nat × Nat)) : State :=
  offsets.foldl (fun s o => s.paintPixel job o) s

/-- The parameters that stand in place of a pen for CLEAR and the retention clearing (R71). -/
def penless (fill : Byte) : Pen :=
  { fg := fill, bg := 0, opaqueBg := true, alu := .copy, stipple := 0xFFFFFFFF#32, planeMask := 0xFF
    keyColour := 0, keyCare := 0, bitOrder := .msbFirst }

/-! ## Destination sets (R80, R82, R88) and their order (R61, R90) -/

/-- The offsets from `lo` up to, but not including, `hi`; none where the range is empty. -/
def offsetRange (lo hi : Int) : List Nat := List.range' lo.toNat (hi - lo).toNat

/-- The offsets of the rows and columns given, row after row. -/
def offsetsOf (rows columns : List Nat) : List (Nat × Nat) := rows.flatMap (fun j => columns.map (fun i => (i, j)))

/-- The record's x, y, w, h, sx and sy (R77, chapter Formats). -/
def recX (body : List Word) : Int := (halfOf (wordAt body 1) 0).toInt
def recY (body : List Word) : Int := (halfOf (wordAt body 1) 1).toInt
def recW (body : List Word) : Nat := (halfOf (wordAt body 2) 0).toNat
def recH (body : List Word) : Nat := (halfOf (wordAt body 2) 1).toNat
def recSx (body : List Word) : Int := (halfOf (wordAt body 3) 0).toInt
def recSy (body : List Word) : Int := (halfOf (wordAt body 3) 1).toInt
def recPane (body : List Word) : Nat := (byteOf (wordAt body 0) 0).toNat
def recPen (body : List Word) : Nat := (byteOf (wordAt body 0) 1).toNat

/-- The kind copies from the store: MOVE and KEYMOVE. -/
def DrawKind.copies : DrawKind → Bool
  | .move => true
  | .keymove => true
  | .fill => false
  | .clear => false
  | .glyph => false
  | .planes => false

/-- The kept column offsets (R80; R88 for MOVE and KEYMOVE). -/
def keptColumns (kind : DrawKind) (pane : Pane) (body : List Word) : List Nat :=
  if kind.copies then
    offsetRange (max 0 (max (-recX body) (-recSx body)))
      (min (recW body) (min (pane.width - recX body) (1280 - recSx body)))
  else offsetRange (max 0 (-recX body)) (min (recW body) (pane.width - recX body))

/-- The kept row offsets (R80; R88 for MOVE and KEYMOVE). -/
def keptRows (kind : DrawKind) (pane : Pane) (body : List Word) : List Nat :=
  if kind.copies then
    offsetRange (max 0 (max (-recY body) (-recSy body)))
      (min (recH body) (min (pane.height - recY body) (1536 - recSy body)))
  else offsetRange (max 0 (-recY body)) (min (recH body) (pane.height - recY body))

/-- MOVE and KEYMOVE take the rows bottom to top: the destination lies below the source (R90). -/
def rowsReversed (kind : DrawKind) (pane : Pane) (body : List Word) : Bool :=
  kind.copies && decide (recSy body < pane.top + recY body)

/-- MOVE and KEYMOVE take each row right to left: same rows, the destination to the right of the source (R90). -/
def columnsReversed (kind : DrawKind) (pane : Pane) (body : List Word) : Bool :=
  kind.copies && decide (pane.top + recY body = recSy body) && decide (recSx body < pane.left + recX body)

/-- The destination set of a record with a rectangle, in the engine's order (R61, R90). -/
def destinationOf (kind : DrawKind) (pane : Pane) (body : List Word) : List (Nat × Nat) :=
  let rows := keptRows kind pane body
  let columns := keptColumns kind pane body
  offsetsOf (if rowsReversed kind pane body then rows.reverse else rows)
    (if columnsReversed kind pane body then columns.reverse else columns)

/-- Every pixel of a pane's rectangle, by offset from its top-left pixel (R71, R82), in CLEAR's order of R61. That the
retention clearing takes the pixels in this order too: DEDUCED (notes/assumptions/25.md). -/
def wholePane (pane : Pane) : List (Nat × Nat) := offsetsOf (List.range pane.height) (List.range pane.width)

/-! ## The checks of a draw record (R78) -/

/-- What the engine decides of a record before it writes. -/
inductive DrawOutcome where
  /-- refused at steps 1 to 4 -/
  | refused (reason : Reason)
  /-- dropped for a SHUT pane at step 5 -/
  | dropped
  /-- an empty size at step 6: applied, nothing written, no count -/
  | emptySize
  /-- clipped away at step 7 -/
  | clippedAway
  /-- drawn at step 8, `cut` where the set holds fewer than w × h pixels -/
  | drawn (job : Job) (cut : Bool)
  deriving DecidableEq, Repr

/-- The fixed part of a record's body in words (R77). -/
def DrawKind.fixedWords : DrawKind → Nat
  | .fill => 3
  | .clear => 1
  | .glyph => 3
  | .planes => 3
  | .move => 4
  | .keymove => 4

/-- The data words a record requires (R77). -/
def dataWords (kind : DrawKind) (pen : Pen) (body : List Word) : Nat :=
  match kind with
  | .glyph => recH body * rowWords (recW body)
  | .planes => recH body * popcount pen.planeMask * rowWords (recW body)
  | .fill => 0
  | .clear => 0
  | .move => 0
  | .keymove => 0

/-- The kind carries data words. -/
def DrawKind.hasData : DrawKind → Bool
  | .glyph => true
  | .planes => true
  | .fill => false
  | .clear => false
  | .move => false
  | .keymove => false

/-- Steps 1 to 4 of R78. -/
def drawRefusal (kind : DrawKind) (pens : Table Pen 32) (panes : Table Pane 16) (body : List Word) : Option Reason :=
  firstFailure
    [ (if kind.hasData then decide (3 ≤ body.length) else decide (body.length = kind.fixedWords), .length),
      (decide (recPane body ≤ 15) && decide (recPen body ≤ 31), .range),
      ((panes.get (recPane body)).valid, .noPane),
      (decide (body.length = kind.fixedWords + dataWords kind (pens.get (recPen body)) body), .length) ]

/-- The data words as the pen's bit order has them used (R70). -/
def usedData (pen : Pen) (body : List Word) : List Word :=
  match pen.bitOrder with
  | .msbFirst => body.drop 3
  | .lsbFirst => (body.drop 3).map reverseWord

/-- The job of a record with a rectangle (R60). -/
def rectangleJob (kind : DrawKind) (pen : Pen) (pane : Pane) (body : List Word) : Job :=
  { kind := kind, pen := pen, pane := recPane body
    left := pane.left + recX body, top := pane.top + recY body, sx := recSx body, sy := recSy body
    width := recW body, data := usedData pen body, todo := destinationOf kind pane body }

/-- The job that writes a whole pane to a colour: CLEAR and the retention clearing (R71), for which it takes CLEAR's order
of pixels (notes/assumptions/25.md). -/
def clearJob (n : Nat) (pane : Pane) : Job :=
  { kind := .clear, pen := penless pane.fill, pane := n
    left := pane.left, top := pane.top, sx := 0, sy := 0, width := 0, data := [], todo := wholePane pane }

/-- The engine examines a record in the order of R78. -/
def examineDraw (kind : DrawKind) (pens : Table Pen 32) (panes : Table Pane 16) (body : List Word) : DrawOutcome :=
  match drawRefusal kind pens panes body with
  | some reason => .refused reason
  | none =>
    let pane := panes.get (recPane body)
    if pane.access = .shut then .dropped
    else if kind = .clear then .drawn (clearJob (recPane body) pane) false
    else if recW body = 0 ∨ recH body = 0 then .emptySize
    else
      let job := rectangleJob kind (pens.get (recPen body)) pane body
      if job.todo = [] then .clippedAway
      else .drawn job (decide ((keptColumns kind pane body).length * (keptRows kind pane body).length
        < recW body * recH body))

/-- The counts and the refusal that an outcome leaves behind (R30, R53, R79). -/
def State.noteOutcome (s : State) (o : DrawOutcome) (kind tag : Byte) (sequence : Option Byte) : State :=
  match o with
  | .refused reason => s.refuse kind tag sequence reason
  | .dropped => s.count .shutDrops
  | .emptySize => s
  | .clippedAway => s.count .clipped
  | .drawn _ cut => if cut then s.count .clipped else s

/-- The job that an outcome has the engine apply. -/
def DrawOutcome.job? : DrawOutcome → Option Job
  | .drawn job _ => some job
  | .refused _ => none
  | .dropped => none
  | .emptySize => none
  | .clippedAway => none

def State.setEngine (s : State) (holder : Holder) (job : Option Job) : State :=
  { s with engine := { s.engine with holder := holder, job := job } }

/-! ## The draw records of the frame in hand -/

/-- The draw record at the cursor is dealt with (R29, R73): misplaced in a CTRL frame; otherwise, with the engine FREE, it
is granted to the decoder. A record decided before any drawing completes at once, with the engine FREE again; one that is
drawn leaves the engine with the decoder until DRAW_COMPLETE. With the engine held the decoder waits. -/
def takeDraw (kind : DrawKind) (s : State) : State :=
  match s.recordOf? kind.code with
  | none => s
  | some (f, r) =>
    if f.kind = .ctrl then (s.refuseRecord f r .misplaced).advance r
    else if s.engine.holder ≠ .free then s
    else
      let o := examineDraw kind s.engine.pens s.panes r.body
      let s1 := s.noteOutcome o r.kind r.tag (some f.sequence)
      match o.job? with
      | some job => s1.setEngine .decoder (some job)
      | none => s1.advance r

/-- FILL (R81). -/
def execFill (s : State) : Host.Outcome State Fault Refusal := live s (takeDraw .fill)

/-- CLEAR (R82). -/
def execClear (s : State) : Host.Outcome State Fault Refusal := live s (takeDraw .clear)

/-- GLYPH (R83, R84). -/
def execGlyph (s : State) : Host.Outcome State Fault Refusal := live s (takeDraw .glyph)

/-- PLANES (R85, R86). -/
def execPlanes (s : State) : Host.Outcome State Fault Refusal := live s (takeDraw .planes)

/-- MOVE (R88 to R90). -/
def execMove (s : State) : Host.Outcome State Fault Refusal := live s (takeDraw .move)

/-- KEYMOVE (R91). -/
def execKeymove (s : State) : Host.Outcome State Fault Refusal := live s (takeDraw .keymove)

/-- The engine deals with the rest of a job's destination set; the pane named by an applied CLEAR record is no longer
lost (R82). -/
def State.finishJob (s : State) (job : Job) : State :=
  let s1 := s.paint job job.todo
  if job.kind = .clear then s1.modifyPane job.pane (fun p => { p with lost := false }) else s1

/-- DRAW_COMPLETE (R60, R73): the last pixel of the set is dealt with, the record is reported applied, the holder becomes
FREE, and the decoder completes the record. -/
def execDrawComplete (s : State) : Host.Outcome State Fault Refusal :=
  onEvent s (decide (s.engine.holder = .decoder)) (fun s =>
    match s.engine.job, s.record? with
    | some job, some (_, r) => ((s.finishJob job).setEngine .free none).advance r
    | _, _ => s)

/-! ## The clear pass (R44, R71, R76) -/

/-- The pixels of the frame store (R40). -/
def storePixels : Nat := 1280 * 1536

/-- The pane contains a pixel whose address is at or above `lo` and below `hi`. -/
def Pane.meetsRun (lo hi : Nat) (p : Pane) : Bool :=
  (List.range' p.top p.height).any (fun y =>
    decide (max lo (pixelAddress p.left y) < min hi (pixelAddress p.left y + p.width)))

/-- The clear pass goes on to address `hi`: index 0 is written into each pixel from where it had come, in rising address,
and each is touched. That it takes the pixels in this order: DEDUCED (notes/assumptions/24.md). -/
def State.clearUpTo (s : State) (hi : Nat) : State :=
  let lo := s.engine.cleared
  State.touchWhere
    { s with
      store := clearCells s.store lo hi
      engine := { s.engine with cleared := hi } }
    (Pane.meetsRun lo hi)

/-- CLEAR_PASS_END (R44): the last pixel is written, the store holds index 0 everywhere, and the engine is FREE. What the
pass has not yet written by then, it writes here: how far it had come is a free value (notes/assumptions/5.md). -/
def execClearPassEnd (s : State) : Host.Outcome State Fault Refusal :=
  onEvent s (decide (s.engine.holder = .clearPass)) (fun s =>
    { s.clearUpTo storePixels with
      store := []
      engine := { s.engine with holder := .free, job := none, cleared := 0 } })

end Sys2Proof.Machine
end

