-- ==== Sys2Proof/Machine/Power.lean ====
section
/-! DEFINITION. Outage and power control: the outage timer, the banner player, the doze entry, the retention pass and
check, and the wake (R101 to R106, R156 to R170). -/

namespace Sys2Proof.Machine

def State.setDevice (s : State) (d : Device) : State := { s with power := { s.power with device := d } }

/-! ## Outages (R156) -/

/-- The link leaves UP: the outage timer starts from 0 and the banner-played flag is cleared. No play of the new outage is
due yet. -/
def State.startOutage (s : State) : State :=
  { s with power := { s.power with outage := some 0, bannerPlayed := false, bannerDue := false } }

/-- The link enters UP: the timer stops, and a play that is due but not granted is cancelled (R156, R160). -/
def State.endOutage (s : State) : State :=
  { s with power := { s.power with outage := none, bannerDue := false } }

/-- The outage timer stands at or above the banner delay, the flag is clear and no play is due yet (R160). -/
def bannerDelayReached (s : State) : Bool :=
  match s.power.outage with
  | some t => decide (s.power.bannerDelay ≤ t) && !s.power.bannerPlayed && !s.power.bannerDue
  | none => false

/-- The banner delay is reached: a play becomes due, or with no banner the flag is set (R160). -/
def State.bannerReached (s : State) : State :=
  if s.power.bannerLength = 0 then { s with power := { s.power with bannerPlayed := true } }
  else { s with power := { s.power with bannerDue := true } }

/-- BANNER_DELAY_EXPIRY (R160). -/
def execBannerDelayExpiry (s : State) : Host.Outcome State Fault Refusal :=
  onEvent s (bannerDelayReached s) State.bannerReached

/-! ## Doze timer (R164) -/

/-- The timer is set to 0 where the link is ABSENT. -/
def State.restartDozeTimer (s : State) : State :=
  if s.link.state = .absent then { s with power := { s.power with dozeTimer := 0 } } else s

/-- The doze timer is running and stands at or above the doze delay. -/
def dozeExpired (s : State) : Bool :=
  decide (s.power.device = .active) && decide (s.link.state = .absent) &&
    decide (s.power.dozeDelay ≤ s.power.dozeTimer)

/-- Entry into ENTERING (R166): the panel's state is remembered and STOP is requested. -/
def State.enterEntering (s : State) : State :=
  State.requestStop { s with power := { s.power with
    device := .entering
    remembered := s.panel.state.starting || decide (s.panel.state = .running) } }

/-- DOZE_TIMER_EXPIRY (R164, R166). -/
def execDozeTimerExpiry (s : State) : Host.Outcome State Fault Refusal :=
  onEvent s (dozeExpired s) State.enterEntering

/-- The check of a DOZE record: no body (R165). -/
def dozeCheck : Record → Option Reason := lengthCheck 0

/-- DOZE (R165): from ACTIVE the device enters ENTERING; in ENTERING the record has no effect. -/
def execDoze (s : State) : Host.Outcome State Fault Refusal :=
  live s (takeControl 0x2F dozeCheck (fun _ s => if s.power.device = .active then s.enterEntering else s))

/-! ## The retention pass (R101, R102) -/

/-- The lowest-numbered pane from `lo` on that satisfies `p`. -/
def nextPane (panes : Table Pane 16) (p : Pane → Bool) (lo : Nat) : Option Nat :=
  (List.range' lo (16 - lo)).find? (fun n => p (panes.get n))

/-- The four conditions of R166 hold in ENTERING. -/
def passDue (s : State) : Bool :=
  decide (s.power.device = .entering) && s.rxq.frames.isEmpty && decide (s.dec.state = .idle) &&
    decide (s.engine.holder = .free) && decide (s.digest.work = .idle)

/-- The pass is complete: the device enters DOZE and STOP is requested a second time (R166). -/
def State.enterDoze (s : State) : State := ((s.setWork .idle).setDevice .doze).requestStop

/-- RETENTION_PASS_START (R101, R166): the pass begins with the first valid pane. -/
def execRetentionPassStart (s : State) : Host.Outcome State Fault Refusal :=
  onEvent s (passDue s) (fun s =>
    match nextPane s.panes Pane.valid 0 with
    | some n => s.setWork (.pass n)
    | none => s.enterDoze)

/-- RETENTION_PASS_PANE_DONE (R101): the digest is stored as VALID and as the doze digest; after the last valid pane the
device enters DOZE. -/
def execRetentionPassPaneDone (s : State) : Host.Outcome State Fault Refusal :=
  live s (fun s =>
    match s.digest.work with
    | .pass n =>
      let v := paneDigest s.store (s.panes.get n)
      let s1 := s.modifyPane n (fun p => { p with digest := .valid v, dozeDigest := some v })
      match nextPane s1.panes Pane.valid (n + 1) with
      | some m => s1.setWork (.pass m)
      | none => s1.enterDoze
    | .idle => s
    | .serving => s
    | .check _ _ => s
    | .clearing _ => s)

/-- Every doze digest is dropped (R102, R105). -/
def State.dropDozeDigests (s : State) : State :=
  { s with panes := s.panes.mapIdx (fun _ p => { p with dozeDigest := none }) }

/-- A pass in progress is abandoned (R102). -/
def State.abandonPass (s : State) : State :=
  match s.digest.work with
  | .pass _ => (s.setWork .idle).dropDozeDigests
  | .idle => s
  | .serving => s
  | .check _ _ => s
  | .clearing _ => s

/-- The panel is restarted if it was remembered on (R132). -/
def State.restartRemembered (s : State) : State := if s.power.remembered then s.requestStart else s

/-- A frame admitted in ENTERING aborts the doze entry (R167). -/
def State.abortDoze (s : State) : State :=
  ((s.abandonPass.setDevice .active).restartRemembered).restartDozeTimer

/-- A wake cause: in DOZE the device enters WAKING and the oscillator wait begins; elsewhere it has no effect (R169). -/
def State.wake (s : State) : State :=
  if s.power.device = .doze then { s with power := { s.power with device := .waking, oscillator := some 0 } } else s

/-! ## The retention check and clearing (R103 to R105, R170) -/

/-- The pane holds a doze digest. -/
def Pane.hasDozeDigest (p : Pane) : Bool := p.dozeDigest.isSome

/-- The end of the check and of WAKING (R105, R170): the doze digests are dropped, RETENTION_LOSS is set if a pane was
lost, the device enters ACTIVE, WOKE is set, and START is requested of a panel remembered on. -/
def State.endCheck (s : State) (anyLost : Bool) : State :=
  let s1 := (s.dropDozeDigests).setWork .idle
  let s2 := if anyLost then s1.setFlag .retentionLoss else s1
  (((s2.setDevice .active).setFlag .woke).restartRemembered).restartDozeTimer

/-- The 4 ms oscillator wait has lasted its time (R170). -/
def oscillatorDue (s : State) : Bool :=
  decide (s.power.device = .waking) &&
    (match s.power.oscillator with
     | some t => decide (4 ≤ t)
     | none => false)

/-- OSCILLATOR_WAIT_END (R170): the retention check begins with the first pane that holds a doze digest. -/
def execOscillatorWaitEnd (s : State) : Host.Outcome State Fault Refusal :=
  onEvent s (oscillatorDue s) (fun s =>
    let s1 := { s with power := { s.power with oscillator := none } }
    match nextPane s1.panes Pane.hasDozeDigest 0 with
    | some n => s1.setWork (.check n [])
    | none => s1.endCheck false)

/-- The lost pane's turn (R104): lost is set, its state becomes NONE, and the engine begins to clear it to its fill
colour. -/
def State.beginClearing (s : State) (n : Nat) (rest : List Nat) : State :=
  let s1 := s.modifyPane n (fun p => { p with lost := true, digest := .none })
  (s1.setEngine .retention (some (clearJob n (s1.panes.get n)))).setWork (.clearing (n :: rest))

/-- The comparisons are all made (R104, R105). -/
def State.checkMade (s : State) (lost : List Nat) : State :=
  match lost with
  | [] => s.endCheck false
  | n :: rest => s.beginClearing n rest

/-- RETENTION_CHECK_PANE_DONE (R103): the recomputed digest is compared with the doze digest; a pane found intact is VALID
with it, a pane found lost is noted; after the last pane the lost panes are dealt with. The engine is FREE throughout
(R75). -/
def execRetentionCheckPaneDone (s : State) : Host.Outcome State Fault Refusal :=
  onEvent s (decide (s.engine.holder = .free)) (fun s =>
    match s.digest.work with
    | .check n lost =>
      let v := paneDigest s.store (s.panes.get n)
      let intact := decide ((s.panes.get n).dozeDigest = some v)
      let s1 := if intact then s.setDigestState n (.valid v) else s
      let lost1 := if intact then lost else lost ++ [n]
      match nextPane s1.panes Pane.hasDozeDigest (n + 1) with
      | some m => s1.setWork (.check m lost1)
      | none => s1.checkMade lost1
    | .idle => s
    | .serving => s
    | .pass _ => s
    | .clearing _ => s)

/-- RETENTION_CLEAR_PANE_DONE (R104, R105): the last pixel of the pane is written; the next lost pane is marked and
cleared, or the engine is given back and the check ends. -/
def execRetentionClearPaneDone (s : State) : Host.Outcome State Fault Refusal :=
  onEvent s (decide (s.engine.holder = .retention)) (fun s =>
    match s.digest.work, s.engine.job with
    | .clearing (_ :: rest), some job =>
      let s1 := s.paint job job.todo
      match rest with
      | [] => (s1.setEngine .free none).endCheck true
      | m :: rest' => s1.beginClearing m rest'
    | _, _ => s)

/-- DOZE_PIXEL_LOSS (R43): in DOZE the index of any pixel may change without a write; nothing is touched. -/
def execDozePixelLoss (x y : Nat) (index : Byte) (s : State) : Host.Outcome State Fault Refusal :=
  if pixelExists x y then
    onEvent s (decide (s.power.device = .doze)) (fun s => s.writePixel x y index)
  else .fault .noSuchPixel

/-! ## The banner player (R160 to R162) -/

/-- The bytes of the banner list from an offset on (R158, R159). -/
def bannerBytes (p : Power) (cursor : Nat) : List Byte :=
  ((p.bannerStore.toList.flatMap bytesOfWord).take p.bannerLength).drop cursor

/-- The record at the player's cursor; none is a structural error (R162). -/
def bannerRecord (p : Power) (cursor : Nat) : Option (DrawKind × Record) :=
  match readRecord (bannerBytes p cursor) with
  | some (.whole r) => (DrawKind.ofCode r.kind).map (fun k => (k, r))
  | _ => none

/-- The play ends and the holder becomes FREE (R72). -/
def State.endPlay (s : State) : State :=
  State.setEngine { s with power := { s.power with bannerCursor := none } } .free none

/-- The player reads the header at its cursor (R162): at the banner length the play ends normally, at a structural error
it ends with MALFORMED counted, and a draw record is given to the engine, with the sequence of a refusal absent. -/
def State.bannerRead (s : State) (cursor : Nat) : State :=
  if s.power.bannerLength ≤ cursor then s.endPlay
  else
    match bannerRecord s.power cursor with
    | none => (s.count .malformed).endPlay
    | some (kind, r) =>
      let o := examineDraw kind s.engine.pens s.panes r.body
      let s1 := s.noteOutcome o r.kind r.tag none
      State.setEngine { s1 with power := { s1.power with bannerCursor := some cursor } } .banner o.job?

/-- The grant conditions of R74 hold for a due play. -/
def bannerGrantDue (s : State) : Bool :=
  s.power.bannerDue && decide (s.engine.holder = .free) && decide (s.power.device = .active) &&
    s.rxq.frames.isEmpty && decide (s.dec.state = .idle)

/-- BANNER_GRANT (R161): the flag is set; the play ends at once if the panel is OFF or STOPPING or there is no banner, and
otherwise the list is walked from byte 0. -/
def execBannerGrant (s : State) : Host.Outcome State Fault Refusal :=
  onEvent s (bannerGrantDue s) (fun s =>
    let s1 := { s with power := { s.power with bannerDue := false, bannerPlayed := true } }
    if s.panel.state = .off ∨ s.panel.state.isStopping = true ∨ s.power.bannerLength = 0 then s1
    else s1.bannerRead 0)

/-- BANNER_RECORD_DONE (R162): the engine's outcome for the stored record arrives (what is left of its destination set is
dealt with), and the player goes on past the record. -/
def execBannerRecordDone (s : State) : Host.Outcome State Fault Refusal :=
  onEvent s (decide (s.engine.holder = .banner)) (fun s =>
    match s.power.bannerCursor with
    | some c =>
      let s1 := match s.engine.job with
        | some job => s.finishJob job
        | none => s
      match bannerRecord s.power c with
      | some (_, r) => s1.bannerRead (c + r.extent)
      | none => s1.endPlay
    | none => s)

end Sys2Proof.Machine
end

