-- ==== Sys2Proof/Machine/Link.lean ====
section
/-! DEFINITION. The link port's downstream side: presence, lane lock, link states, frame assembly and checking, admission
(R1 to R16), and the stale discard that a resume brings (R154). -/

namespace Sys2Proof.Machine

def State.setLink (s : State) (l : LinkState) : State := { s with link := { s.link with state := l } }

def State.setAssembly (s : State) (a : Assembly) : State := { s with link := { s.link with assembly := a } }

/-! ## Truncation and loss of link -/

/-- A frame is being assembled. -/
def Assembly.isAssembling : Assembly → Bool
  | .assembling _ => true
  | .waiting => false

/-- A frame in assembly is discarded and counted TRUNCATED (R10). -/
def State.truncate (s : State) : State :=
  if s.link.assembly.isAssembling then (s.setAssembly .waiting).count .truncated else s

/-- An outage begins when the link leaves UP (R156). -/
def State.leaveUp (s : State) : State := if s.link.state = .up then s.startOutage else s

/-! ## Presence (R2 to R4) -/

/-- PRESENCE_CONTACT_CHANGE (R2): a change of the raw contact restarts the stability timer. -/
def execPresenceContactChange (contact : Contact) (s : State) : Host.Outcome State Fault Refusal :=
  .next (if s.link.contact = contact then s
    else { s with link := { s.link with contact := contact, stability := 0 } })

/-- The raw contact has been closed for 20 ms while the debounced presence is OPEN (R2). -/
def presenceClosedDue (s : State) : Bool :=
  decide (s.link.contact = .closed) && decide (s.link.presence = .opened) && decide (20 ≤ s.link.stability)

/-- PRESENCE_CLOSED (R2, R4): ABSENT goes to ACQUIRING, and in DOZE this is a wake cause. -/
def execPresenceClosed (s : State) : Host.Outcome State Fault Refusal :=
  onEvent s (presenceClosedDue s) (fun s =>
    State.wake
      { s with link := { s.link with
          presence := .closed
          state := if s.link.state = .absent then .acquiring else s.link.state } })

/-- The raw contact has been open for 50 ms while the debounced presence is CLOSED (R2). -/
def presenceOpenDue (s : State) : Bool :=
  decide (s.link.contact = .opened) && decide (s.link.presence = .closed) && decide (50 ≤ s.link.stability)

/-- The link enters ABSENT (R3): the expected sequence becomes unknown, a frame in assembly is truncated, the upstream side
is given up, an outage begins if the link was UP, and the doze timer starts. -/
def State.enterAbsent (s : State) : State :=
  let s1 := ((s.leaveUp.truncate).giveUpUpstream).setLink .absent
  State.restartDozeTimer { s1 with link := { s1.link with expected := none } }

/-- PRESENCE_OPEN (R2, R3). -/
def execPresenceOpen (s : State) : Host.Outcome State Fault Refusal :=
  onEvent s (presenceOpenDue s) (fun s =>
    State.enterAbsent { s with link := { s.link with presence := .opened } })

/-! ## Lane lock (R1, R7) -/

/-- LANE_LOCK_GAINED (R1): no link state changes. -/
def execLaneLockGained (s : State) : Host.Outcome State Fault Refusal :=
  live s (fun s => { s with link := { s.link with laneLock := true } })

/-- LANE_LOCK_LOST (R7, R10): a frame in assembly is truncated; in UP or QUIET with presence CLOSED the link goes to
ACQUIRING, the expected sequence is kept and the upstream side is given up. -/
def execLaneLockLost (s : State) : Host.Outcome State Fault Refusal :=
  onEvent s s.link.laneLock (fun s =>
    let s1 := State.truncate { s with link := { s.link with laneLock := false } }
    if s.link.state.alive ∧ s.link.presence = .closed then (s1.leaveUp.giveUpUpstream).setLink .acquiring else s1)

/-! ## The silence timer (R6) -/

/-- The silence timer has reached the timeout in UP. -/
def silenceDue (s : State) : Bool :=
  decide (s.link.state = .up) && decide (s.link.silenceTimeout ≤ s.link.silence)

/-- The link goes to QUIET, and an outage begins (R6, R156). -/
def State.goQuiet (s : State) : State := (s.leaveUp).setLink .quiet

/-- SILENCE_TIMEOUT (R6). -/
def execSilenceTimeout (s : State) : Host.Outcome State Fault Refusal :=
  onEvent s (silenceDue s) State.goQuiet

/-! ## Resume (R5) -/

/-- The age of a key event, in milliseconds mod 2^32 (R154). -/
def KeyEvent.age (e : KeyEvent) (now : BitVec 32) : Nat := (now - e.stamp).toNat

/-- The event is stale under the hold limit; with no limit none is (R154). -/
def KeyEvent.isStale (e : KeyEvent) (now : BitVec 32) (limit : Option Nat) : Bool :=
  match limit with
  | some l => decide (l ≤ e.age now)
  | none => false

/-- The stale discard (R154): stale events at the head are removed and counted, and if any was, a snapshot is pending. -/
def State.staleDiscard (s : State) : State :=
  let stale := s.keyq.events.takeWhile (fun e => e.isStale s.status.timeBase s.keyq.holdLimit)
  let s1 := { s with keyq := { s.keyq with
    events := s.keyq.events.drop stale.length
    snapshotPending := s.keyq.snapshotPending || !stale.isEmpty } }
  s1.count .staleKeys stale.length

/-- The link enters UP from another state (R5): the silence timer restarts, RESUMED is set, the stale discard is made, a
flow symbol becomes pending, the outage ends, and a NOTICE may become pending. -/
def State.resume (s : State) : State :=
  let s1 := { s with
    link := { s.link with state := .up, silence := 0 }
    up := { s.up with flowPending := true } }
  (((s1.setFlag .resumed).noticeAtResume).staleDiscard).endOutage

/-! ## Checking a frame (R11 to R14) -/

/-- The frame kinds that are admitted (chapter Formats). -/
def FrameKind.ofCode (code : Byte) : Option FrameKind :=
  match code.toNat with
  | 0x01 => some .draw
  | 0x02 => some .ctrl
  | _ => none

/-- A frame is admitted (R14): it joins the tail of the queue, the flow state is re-evaluated, and outage and power control
hears of it: a wake cause in DOZE, an abort in ENTERING, nothing in WAKING or ACTIVE. -/
def State.admitFrame (s : State) (f : RxFrame) : State :=
  let s1 := State.flowAtAdmission { s with rxq := { s.rxq with frames := s.rxq.frames ++ [f] } }
  match s.power.device with
  | .doze => s1.wake
  | .entering => s1.abortDoze
  | .active => s1
  | .waking => s1

/-- Admission (R14): a kept frame for which there is no room is discarded and counted OVERFLOW. -/
def State.admission (s : State) (f : RxFrame) : State :=
  if 8192 < occupancy s.rxq.frames + f.occupancy ∨ 16 < s.rxq.frames.length + 1 then
    (s.count .overflow).setFlag .gap
  else s.admitFrame f

/-- A kept frame moves the expected sequence past it (R12); a kind other than DRAW and CTRL is then counted UNKNOWN (R13),
and a DRAW or CTRL frame goes to admission. -/
def State.keepFrame (s : State) (kind flags sequence : Byte) (payload : List Byte) : State :=
  let s1 := { s with link := { s.link with expected := some (sequence + 1) } }
  match FrameKind.ofCode kind with
  | some k => s1.admission { kind := k, flags := flags, sequence := sequence, payload := payload }
  | none => s1.count .unknown

/-- Sequence classification (R12): baseline, in order, missed or late. -/
def State.classify (s : State) (kind flags sequence : Byte) (payload : List Byte) : State :=
  match s.link.expected with
  | none => s.keepFrame kind flags sequence payload
  | some expected =>
    let d := (sequence - expected).toNat
    if d = 0 then s.keepFrame kind flags sequence payload
    else if d ≤ 127 then ((s.count .gapFrames d).setFlag .gap).keepFrame kind flags sequence payload
    else (s.count .lateFrames).setFlag .gap

/-- A good-CRC frame restarts the silence timer (R6) and in ACQUIRING or QUIET brings a resume (R5). -/
def State.goodFrame (s : State) : State :=
  match s.link.state with
  | .acquiring => s.resume
  | .quiet => s.resume
  | .up => { s with link := { s.link with silence := 0 } }
  | .absent => s

/-- The payload length field of the header in the assembly buffer (chapter Formats). -/
def headerLength (buffer : List Byte) : Nat := (halfOfBytes (buffer.getD 4 0) (buffer.getD 5 0)).toNat

/-- The two CRC bytes agree with the CRC-16 over header and payload (R11). -/
def crcAgrees (buffer : List Byte) : Bool :=
  let n := 6 + headerLength buffer
  decide (halfOfBytes (buffer.getD n 0) (buffer.getD (n + 1) 0) = crc16 (buffer.take n))

/-- A frame has ended (R9, R11): it is handed to the checks and assembly returns to WAITING. -/
def State.endFrame (s : State) (buffer : List Byte) : State :=
  let s1 := s.setAssembly .waiting
  if crcAgrees buffer then
    s1.goodFrame.classify (buffer.getD 0 0) (buffer.getD 1 0) (buffer.getD 2 0)
      ((buffer.drop 6).take (headerLength buffer))
  else s1.count .badFrame

/-! ## Frame assembly (R9) -/

/-- Symbols are taken in: lock is held and the link is not ABSENT (R1, R3). -/
def takesSymbols (s : State) : Bool := s.link.laneLock && decide (s.link.state ≠ .absent)

/-- START_SYMBOL (R9, R10): a frame in progress is truncated and a new frame begins with an empty buffer. -/
def execStartSymbol (s : State) : Host.Outcome State Fault Refusal :=
  onEvent s (takesSymbols s) (fun s => s.truncate.setAssembly (.assembling []))

/-- DATA_SYMBOL (R9): the byte is stored; with the header in, an impossible payload length discards the frame, counted
BAD_FRAME; the last CRC byte ends the frame. In WAITING the symbol is disregarded. -/
def execDataSymbol (byte : Byte) (s : State) : Host.Outcome State Fault Refusal :=
  onEvent s (takesSymbols s) (fun s =>
    match s.link.assembly with
    | .waiting => s
    | .assembling stored =>
      let buffer := stored ++ [byte]
      if buffer.length < 6 then s.setAssembly (.assembling buffer)
      else if 1024 < headerLength buffer ∨ headerLength buffer % 4 ≠ 0 then
        (s.setAssembly .waiting).count .badFrame
      else if buffer.length < 8 + headerLength buffer then s.setAssembly (.assembling buffer)
      else s.endFrame buffer)

end Sys2Proof.Machine
end

