-- ==== Sys2Proof/Machine/Keys.lean ====
section
/-! DEFINITION. The key scanner: scans, the ghost filter, debounce, makes and breaks, the key queue, the keymap and the
lamps (R137 to R151). -/

namespace Sys2Proof.Machine

/-! ## Scans (R137, R138) -/

/-- The scan period in milliseconds (R137). -/
def scanPeriod : Device → Nat
  | .doze => 16
  | .active => 1
  | .entering => 1
  | .waking => 1

/-- The next scan is due: one period of the state the device is in after the last scan (R137). -/
def scanDue (s : State) : Bool := decide (scanPeriod s.power.device ≤ s.keys.sinceScan)

/-- The raw state of the key at drive line d and sense line n (R137). -/
def rawPressed (raw : BitVec 128) (d n : Nat) : Bool := raw.getLsbD (d * 16 + n)

/-- A scan is ghosted: two drive lines and two sense lines whose four crossings all read pressed (R138). -/
def ghosted (raw : BitVec 128) : Bool :=
  (List.range 8).any fun d1 => (List.range d1).any fun d2 =>
    (List.range 16).any fun n1 => (List.range n1).any fun n2 =>
      rawPressed raw d1 n1 && rawPressed raw d1 n2 && rawPressed raw d2 n1 && rawPressed raw d2 n2

/-! ## Debounce (R139) -/

/-- The counter of position P after a scan that is not ghosted, before an accepted change returns it to 0. -/
def debounced (k : KeyScanner) (raw : BitVec 128) (p : Nat) : Nat :=
  if raw.getLsbD p = k.accepted.get p then 0 else k.counters.get p + 1

/-- Position P has an accepted change in this scan. -/
def acceptsChange (k : KeyScanner) (raw : BitVec 128) (p : Nat) : Bool :=
  decide (raw.getLsbD p ≠ k.accepted.get p) && decide (k.debounce ≤ debounced k raw p)

/-- The accepted states and counters after a scan that is not ghosted. -/
def KeyScanner.afterScan (k : KeyScanner) (raw : BitVec 128) : KeyScanner :=
  { k with
    accepted := k.accepted.mapIdx (fun p a => if acceptsChange k raw p then raw.getLsbD p else a)
    counters := .ofFn 128 (fun p => if acceptsChange k raw p then 0 else debounced k raw p) }

/-- The positions with an accepted break, and with an accepted make, ascending (R141). -/
def acceptedBreaks (k : KeyScanner) (raw : BitVec 128) : List Nat :=
  (List.range 128).filter (fun p => acceptsChange k raw p && !raw.getLsbD p)
def acceptedMakes (k : KeyScanner) (raw : BitVec 128) : List Nat :=
  (List.range 128).filter (fun p => acceptsChange k raw p && raw.getLsbD p)

/-! ## Makes and breaks (R142 to R146, R151) -/

/-- An event arrives at the key queue (R150, R151): added at the tail, or, with 32 events held, dropped and counted, with
the KEY_OVERRUN flag and both pending flags set. -/
def State.queueKey (s : State) (e : KeyEvent) : State :=
  if 32 ≤ s.keyq.events.length then
    State.setFlag (State.count
      { s with keyq := { s.keyq with overrunPending := true, snapshotPending := true } } .keyOverrun) .keyOverrun
  else { s with keyq := { s.keyq with events := s.keyq.events ++ [e] } }

/-- The layer in force: 1 while a held entry has action FN (R144). -/
def layerInForce (held : List HeldKey) : Nat := if held.any (fun h => decide (h.action = .fn)) then 1 else 0

/-- The keymap entry of position P in a layer (R142). -/
def KeyScanner.entry (k : KeyScanner) (layer p : Nat) : KeymapEntry := k.keymap.get (layer * 128 + p)

def State.setHeld (s : State) (held : List HeldKey) : State := { s with keys := { s.keys with held := held } }

/-- Lamp n is toggled (R147). -/
def State.toggleLamp (s : State) (n : Nat) : State :=
  { s with keys := { s.keys with lamps := s.keys.lamps.modify n (fun b => !b) } }

/-- What a make that joins the held set brings, by the entry's action (R145). -/
def State.makeAction (s : State) (action : KeyAction) (e : KeyEvent) : State :=
  match action with
  | .key => s.queueKey e
  | .lamp n => (s.toggleLamp n).queueKey e
  | .fn => s
  | .ignore => s

/-- A make of position P is processed (R145), and reported as a wake cause (R141, R169). -/
def State.processMake (s : State) (p : Nat) : State :=
  let layer := layerInForce s.keys.held
  let entry := s.keys.entry layer p
  let s1 :=
    if entry.action = .ignore then s
    else if 10 ≤ s.keys.held.length then s.count .overroll
    else
      (s.setHeld (s.keys.held ++ [{ position := p, code := entry.code, layer := layer, action := entry.action }])).makeAction
        entry.action { kind := .make, code := entry.code, position := p, layer := layer, stamp := s.status.timeBase }
  s1.wake

/-- The held entry of position P. -/
def heldAt (held : List HeldKey) (p : Nat) : Option HeldKey := held.find? (fun h => decide (h.position = p))

/-- The recorded action reports: it is KEY or LAMP (R142). -/
def KeyAction.reports : KeyAction → Bool
  | .key => true
  | .lamp _ => true
  | .fn => false
  | .ignore => false

/-- A break of position P is processed (R146). -/
def State.processBreak (s : State) (p : Nat) : State :=
  match heldAt s.keys.held p with
  | none => s
  | some h =>
    let s1 :=
      if h.action.reports then
        s.queueKey { kind := .break, code := h.code, position := p, layer := h.layer, stamp := s.status.timeBase }
      else s
    s1.setHeld (s1.keys.held.filter (fun h => decide (h.position ≠ p)))

/-- KEY_SCAN (R137 to R141): a ghosted scan is discarded whole and counted; otherwise the positions are debounced and the
accepted breaks and then the accepted makes are processed, each in ascending position. -/
def execKeyScan (raw : BitVec 128) (s : State) : Host.Outcome State Fault Refusal :=
  onEvent s (scanDue s) (fun s =>
    let s0 := { s with keys := { s.keys with rawMatrix := raw, sinceScan := 0 } }
    if ghosted raw then s0.count .ghost
    else
      let s1 := { s0 with keys := s0.keys.afterScan raw }
      let s2 := (acceptedBreaks s.keys raw).foldl State.processBreak s1
      (acceptedMakes s.keys raw).foldl State.processMake s2)

/-! ## Lamps as driven (R148) -/

/-- Lamp n is lit: dark in DOZE and while a hardware reset lasts; lamps 0 to 6 by their states, lamp 7 by the link state,
blinking at 2 Hz from the time base. -/
def lampLit (s : State) (n : Nat) : Bool :=
  if s.resetLine ∨ s.power.device = .doze then false
  else if n < 7 then s.keys.lamps.get n
  else
    match s.link.state with
    | .up => true
    | .absent => false
    | .acquiring => decide (s.status.timeBase.toNat % 500 < 250)
    | .quiet => decide (s.status.timeBase.toNat % 500 < 250)

/-! ## LOAD_KEYMAP, LAMPS and SET_KEYS -/

/-- The action of an entry's word: its code in byte 1, the lamp number in byte 2 (chapter Formats). -/
def keyActionOf (w : Word) : Option KeyAction :=
  match (byteOf w 1).toNat with
  | 0 => some .key
  | 1 => some .fn
  | 2 => if (byteOf w 2).toNat ≤ 6 then some (.lamp (byteOf w 2).toNat) else none
  | 3 => some .ignore
  | _ => none

/-- The keymap entry of an accepted entry word. -/
def keymapEntryOf (w : Word) : KeymapEntry := { code := byteOf w 0, action := (keyActionOf w).getD .ignore }

/-- Byte `n` of a body's word 0, as a number. -/
def headByte (r : Record) (n : Nat) : Nat := (byteOf (wordAt r.body 0) n).toNat

/-- The checks of LOAD_KEYMAP (R143): layer, start position and count in bytes 0, 1 and 2 of word 0. -/
def loadKeymapCheck (r : Record) : Option Reason :=
  firstFailure
    [ (decide (1 ≤ r.body.length) && decide (r.body.length = 1 + headByte r 2), .length),
      (decide (headByte r 0 ≤ 1) && decide (headByte r 1 + headByte r 2 ≤ 128) &&
        r.body.tail.all (fun w => (keyActionOf w).isSome), .range) ]

/-- LOAD_KEYMAP (R143). -/
def execLoadKeymap (s : State) : Host.Outcome State Fault Refusal :=
  live s (takeControl 0x24 loadKeymapCheck (fun r s =>
    { s with keys := { s.keys with
        keymap := s.keys.keymap.setRun (headByte r 0 * 128 + headByte r 1) (r.body.tail.map keymapEntryOf) } }))

/-- A lamp's state after a LAMPS record, by its set bit and its clear bit (R147). -/
def lampAfter (setBit clearBit was : Bool) : Bool :=
  match setBit, clearBit with
  | true, false => true
  | false, true => false
  | true, true => !was
  | false, false => was

/-- LAMPS (R147); the bits for lamp 7 are disregarded. -/
def execLamps (s : State) : Host.Outcome State Fault Refusal :=
  live s (takeControl 0x2A (lengthCheck 1) (fun r s =>
    { s with keys := { s.keys with
        lamps := s.keys.lamps.mapIdx (fun n was =>
          lampAfter ((byteOf (wordAt r.body 0) 0).getLsbD n) ((byteOf (wordAt r.body 0) 1).getLsbD n) was) } }))

/-- The key hold limit of a code; none is "no limit" (R140). -/
def holdLimitOf : Nat → Option Nat
  | 0 => some 0
  | 1 => some 500
  | 2 => some 2000
  | _ => none

/-- The checks of SET_KEYS (R140). -/
def setKeysCheck (r : Record) : Option Reason :=
  firstFailure [(decide (r.body.length = 1), .length), (decide (headByte r 1 ≤ 3), .range)]

/-- SET_KEYS (R140): the debounce count is clamped to 2 to 15 (R32). -/
def execSetKeys (s : State) : Host.Outcome State Fault Refusal :=
  live s (takeControl 0x2C setKeysCheck (fun r s =>
    { s with
      keys := { s.keys with debounce := max 2 (min 15 (headByte r 0)) }
      keyq := { s.keyq with holdLimit := holdLimitOf (headByte r 1) } }))

end Sys2Proof.Machine
end

