-- ==== Sys2Proof/Machine/Colour.lean ====
section
/-! DEFINITION. The colour unit: LOAD_PALETTE, LOAD_SHADE, the shade arithmetic and the recompute job (R107 to R119). -/

namespace Sys2Proof.Machine

/-! ## The shade arithmetic (R112 to R114) -/

/-- The gain with rounding: v (R112). -/
def gained (c gain : Nat) : Nat := (c * gain + 128) / 256

/-- The offset added to the rounded value, before saturation (R112). -/
def offsetted (c gain : Nat) (offset : Int) : Int := (gained c gain : Int) + offset

/-- Saturation to 0 to 1023 (R112). -/
def saturated (w : Int) : Nat := if w < 0 then 0 else if 1023 < w then 1023 else w.toNat

/-- Saturation changes w (R112, R115). -/
def saturates (w : Int) : Bool := decide (w < 0) || decide (1023 < w)

/-- Reduction to the panel's 6 bits (R114). -/
def reduced (w : Nat) : Nat := min 63 ((w + 8) / 16)

/-- The panel value of a channel: shaded, or, for a fixed entry, the channel value itself (R112, R113). -/
def panelValue (fixed : Bool) (c gain : Nat) (offset : Int) : Nat :=
  if fixed then reduced c else reduced (saturated (offsetted c gain offset))

/-- The three panel values of an entry in a set. -/
def shadedValues (e : PaletteEntry) (set : ShadeSet) : Rgb Nat :=
  { red := panelValue e.fixed e.colour.red set.gain.red set.offset.red
    green := panelValue e.fixed e.colour.green set.gain.green set.offset.green
    blue := panelValue e.fixed e.colour.blue set.gain.blue set.offset.blue }

/-- The shading of a non-fixed entry saturates in a channel (R115). -/
def shadingSaturates (e : PaletteEntry) (set : ShadeSet) : Bool :=
  !e.fixed &&
    (saturates (offsetted e.colour.red set.gain.red set.offset.red) ||
      saturates (offsetted e.colour.green set.gain.green set.offset.green) ||
      saturates (offsetted e.colour.blue set.gain.blue set.offset.blue))

/-- Idle reduction of one channel (R119). -/
def idleReduced (p : Nat) : Nat := if 32 ≤ p then 63 else 0

/-! ## The recompute job (R116, R117) -/

/-- The pair that comes first in the order of set and then of index. -/
def firstPair (c : ColourUnit) : Option Nat := c.recompute.findFirst id

/-- The clip flag of set s becomes set, and the summary flag SHADE_CLIP with it (R115). -/
def State.setClip (s : State) (set : Nat) : State :=
  State.setFlag { s with colour := { s.colour with sets := s.colour.sets.modify set (fun x => { x with clip := true }) } }
    .shadeClip

/-- The recompute of pair k (R116): it leaves the set and its entry is written from the palette and the set as they
stand. -/
def State.recomputePair (s : State) (k : Nat) : State :=
  let e := s.colour.palette.get (k % 256)
  let set := s.colour.sets.get (k / 256)
  let s1 := { s with colour := { s.colour with
    recompute := s.colour.recompute.set k false
    shaded := s.colour.shaded.set k (shadedValues e set) } }
  if shadingSaturates e set then s1.setClip (k / 256) else s1

/-- RECOMPUTE_STEP (R116); with the set empty the job does not run. -/
def execRecomputeStep (s : State) : Host.Outcome State Fault Refusal :=
  live s (fun s =>
    match firstPair s.colour with
    | some k => s.recomputePair k
    | none => s)

/-! ## LOAD_PALETTE (R108, R109) -/

/-- The entries of a LOAD_PALETTE body: pairs of words after word 0. -/
def palettePairs : List Word → List (Word × Word)
  | a :: b :: rest => (a, b) :: palettePairs rest
  | _ => []

/-- A channel above 1023 becomes 1023 (R32). -/
def clampChannel (v : BitVec 16) : Nat := min 1023 v.toNat

/-- The palette entry of two body words (chapter Formats). -/
def paletteEntryOf (w : Word × Word) : PaletteEntry :=
  { colour := ⟨clampChannel (halfOf w.1 0), clampChannel (halfOf w.1 1), clampChannel (halfOf w.2 0)⟩
    fixed := byteOf w.2 2 == 1 }

/-- The checks of LOAD_PALETTE (R108): start index and count in bytes 0 and 1 of word 0. -/
def loadPaletteCheck (r : Record) : Option Reason :=
  firstFailure
    [ (decide (1 ≤ r.body.length) && decide (r.body.length = 1 + 2 * headByte r 1), .length),
      (decide (headByte r 0 + headByte r 1 ≤ 256) &&
        (palettePairs r.body.tail).all (fun w => isBit (byteOf w.2 2)), .range) ]

/-- An accepted LOAD_PALETTE writes its run and adds the pairs of its indices in all four sets (R109). -/
def loadPaletteEffect (r : Record) (s : State) : State :=
  let start := headByte r 0
  let count := headByte r 1
  { s with colour := { s.colour with
      palette := s.colour.palette.setRun start ((palettePairs r.body.tail).map paletteEntryOf)
      recompute := s.colour.recompute.mapIdx (fun k b =>
        b || (decide (start ≤ k % 256) && decide (k % 256 < start + count))) } }

/-- LOAD_PALETTE (R108, R109). -/
def execLoadPalette (s : State) : Host.Outcome State Fault Refusal :=
  live s (takeControl 0x22 loadPaletteCheck loadPaletteEffect)

/-! ## LOAD_SHADE (R111) -/

/-- A gain above 511 becomes 511 (R32). -/
def clampGain (v : BitVec 16) : Nat := min 511 v.toNat

/-- An offset outside −512 to +511 becomes the nearer end (R32). -/
def clampOffset (v : BitVec 16) : Int := max (-512) (min 511 v.toInt)

/-- The checks of LOAD_SHADE (R111): the set in byte 0 of word 0. -/
def loadShadeCheck (r : Record) : Option Reason :=
  firstFailure [(decide (r.body.length = 4), .length), (decide (headByte r 0 ≤ 3), .range)]

/-- The fields an accepted LOAD_SHADE writes; the set's clip flag is left (R111). -/
def shadeSetOf (body : List Word) (clip : Bool) : ShadeSet :=
  { gain := ⟨clampGain (halfOf (wordAt body 1) 0), clampGain (halfOf (wordAt body 2) 0),
      clampGain (halfOf (wordAt body 3) 0)⟩
    offset := ⟨clampOffset (halfOf (wordAt body 1) 1), clampOffset (halfOf (wordAt body 2) 1),
      clampOffset (halfOf (wordAt body 3) 1)⟩
    clip := clip }

/-- An accepted LOAD_SHADE writes one set and adds its 256 pairs (R111). -/
def loadShadeEffect (r : Record) (s : State) : State :=
  let n := headByte r 0
  { s with colour := { s.colour with
      sets := s.colour.sets.modify n (fun x => shadeSetOf r.body x.clip)
      recompute := s.colour.recompute.mapIdx (fun k b => b || decide (k / 256 = n)) } }

/-- LOAD_SHADE (R111). -/
def execLoadShade (s : State) : Host.Outcome State Fault Refusal :=
  live s (takeControl 0x23 loadShadeCheck loadShadeEffect)

end Sys2Proof.Machine
end

