-- ==== Sys2Proof/Machine/Control.lean ====
section
/-! DEFINITION. The other control records that are not answered: LOAD_PEN, LOAD_PANE, LOAD_BANNER, SET_BANNER, SET_LINK,
SET_OUTAGE, SET_NOTICE, RESET and CLEAR_COUNTS. -/

namespace Sys2Proof.Machine

/-! ## LOAD_PEN (R58, R59) -/

/-- The alu of a code (chapter Formats). -/
def Alu.ofCode (code : Byte) : Option Alu :=
  match code.toNat with
  | 0 => some .copy
  | 1 => some .and
  | 2 => some .or
  | 3 => some .xor
  | _ => none

/-- The bit order of a code (chapter Formats). -/
def BitOrder.ofCode (code : Byte) : Option BitOrder :=
  match code.toNat with
  | 0 => some .msbFirst
  | 1 => some .lsbFirst
  | _ => none

/-- The checks of LOAD_PEN (R58). -/
def loadPenCheck (r : Record) : Option Reason :=
  firstFailure
    [ (decide (r.body.length = 4), .length),
      (decide (headByte r 0 ≤ 31) && isBit (byteOf (wordAt r.body 0) 3) &&
        (Alu.ofCode (byteOf (wordAt r.body 1) 0)).isSome && (BitOrder.ofCode (byteOf (wordAt r.body 1) 1)).isSome, .range) ]

/-- The pen an accepted LOAD_PEN writes (chapter Formats). -/
def penOf (body : List Word) : Pen :=
  { fg := byteOf (wordAt body 0) 1
    bg := byteOf (wordAt body 0) 2
    opaqueBg := byteOf (wordAt body 0) 3 == 1
    alu := (Alu.ofCode (byteOf (wordAt body 1) 0)).getD .copy
    bitOrder := (BitOrder.ofCode (byteOf (wordAt body 1) 1)).getD .msbFirst
    planeMask := byteOf (wordAt body 1) 2
    keyColour := byteOf (wordAt body 1) 3
    keyCare := byteOf (wordAt body 2) 0
    stipple := wordAt body 3 }

/-- LOAD_PEN (R59): all nine fields of one pen. -/
def execLoadPen (s : State) : Host.Outcome State Fault Refusal :=
  live s (takeControl 0x20 loadPenCheck (fun r s =>
    { s with engine := { s.engine with pens := s.engine.pens.set (headByte r 0) (penOf r.body) } }))

/-! ## LOAD_PANE (R47 to R50) -/

/-- The rectangle of a LOAD_PANE body (chapter Formats). -/
def recLeft (body : List Word) : Nat := (halfOf (wordAt body 1) 0).toNat
def recTop (body : List Word) : Nat := (halfOf (wordAt body 1) 1).toNat
def recWidth (body : List Word) : Nat := (halfOf (wordAt body 2) 0).toNat
def recHeight (body : List Word) : Nat := (halfOf (wordAt body 2) 1).toNat

/-- The rectangle fits in the frame store (R47). -/
def rectangleFits (left top width height : Nat) : Bool :=
  decide (left ≤ 1279) && decide (top ≤ 1535) && decide (1 ≤ width) && decide (width ≤ 1280) && decide (1 ≤ height) &&
    decide (height ≤ 1536) && decide (left + width ≤ 1280) && decide (top + height ≤ 1536)

/-- The checks of LOAD_PANE (R47): pane, valid, access and shade set in the bytes of word 0. With valid 0 nothing but the
pane number and the valid value is checked; for pane 0 the rectangle is not. -/
def loadPaneCheck (r : Record) : Option Reason :=
  let n := headByte r 0
  let valid := headByte r 1
  firstFailure
    [ (decide (r.body.length = 4), .length),
      (decide (n ≤ 15) && decide (valid ≤ 1) && !(decide (n = 0) && decide (valid = 0)), .range),
      (decide (valid = 0) || (decide (headByte r 2 ≤ 1) && decide (headByte r 3 ≤ 3)), .range),
      (decide (valid = 0) || decide (n = 0) ||
        rectangleFits (recLeft r.body) (recTop r.body) (recWidth r.body) (recHeight r.body), .range) ]

/-- The access of a code (chapter Formats). -/
def accessOf (code : Nat) : Access := if code = 1 then .shut else .opened

/-- What an accepted LOAD_PANE writes, but for the digest state (R48, R49). -/
def Pane.loaded (p : Pane) (n : Nat) (r : Record) : Pane :=
  if headByte r 1 = 0 then { p with valid := false, lost := false }
  else
    let q := { p with
      valid := true
      access := accessOf (headByte r 2)
      shadeSet := headByte r 3
      fill := byteOf (wordAt r.body 3) 0
      lost := false }
    if n = 0 then q
    else { q with
      left := recLeft r.body
      top := recTop r.body
      width := recWidth r.body
      height := recHeight r.body }

/-- An accepted LOAD_PANE: the entry is written at once and the digest unit forgets the pane (R48 to R50). -/
def loadPaneEffect (r : Record) (s : State) : State :=
  (s.modifyPane (headByte r 0) (fun p => p.loaded (headByte r 0) r)).forgetPane (headByte r 0)

/-- LOAD_PANE (R48). -/
def execLoadPane (s : State) : Host.Outcome State Fault Refusal :=
  live s (takeControl 0x21 loadPaneCheck loadPaneEffect)

/-! ## LOAD_BANNER and SET_BANNER (R158, R159) -/

/-- The checks of LOAD_BANNER (R158): the start word offset in byte 0 of word 0. -/
def loadBannerCheck (r : Record) : Option Reason :=
  firstFailure
    [ (decide (r.body.length ≠ 0), .length),
      (decide (headByte r 0 + (r.body.length - 1) ≤ 256), .range) ]

/-- LOAD_BANNER (R158): the banner length is not changed. -/
def execLoadBanner (s : State) : Host.Outcome State Fault Refusal :=
  live s (takeControl 0x25 loadBannerCheck (fun r s =>
    { s with power := { s.power with bannerStore := s.power.bannerStore.setRun (headByte r 0) r.body.tail } }))

/-- The length of a SET_BANNER body (chapter Formats). -/
def bannerLengthOf (body : List Word) : Nat := (halfOf (wordAt body 0) 0).toNat

/-- The checks of SET_BANNER (R159). -/
def setBannerCheck (r : Record) : Option Reason :=
  firstFailure
    [ (decide (r.body.length = 1), .length),
      (decide (bannerLengthOf r.body ≤ 1024) && decide (bannerLengthOf r.body % 4 = 0), .range) ]

/-- SET_BANNER (R159). -/
def execSetBanner (s : State) : Host.Outcome State Fault Refusal :=
  live s (takeControl 0x26 setBannerCheck (fun r s =>
    { s with power := { s.power with bannerLength := bannerLengthOf r.body } }))

/-! ## SET_LINK (R8) -/

/-- The silence timeout of a code, in milliseconds. -/
def silenceTimeoutOf : Nat → Nat
  | 0 => 50
  | 1 => 200
  | 2 => 1000
  | _ => 4000

/-- The checks of SET_LINK (R8). -/
def setLinkCheck (r : Record) : Option Reason :=
  firstFailure [(decide (r.body.length = 1), .length), (decide (headByte r 0 ≤ 3), .range)]

/-- SET_LINK (R8): the new timeout applies to the running timer as well, so UP may go to QUIET at once. -/
def execSetLink (s : State) : Host.Outcome State Fault Refusal :=
  live s (takeControl 0x2B setLinkCheck (fun r s =>
    let s1 := { s with link := { s.link with silenceTimeout := silenceTimeoutOf (headByte r 0) } }
    if silenceDue s1 then s1.goQuiet else s1))

/-! ## SET_OUTAGE (R157) -/

/-- The banner delay of a code, in milliseconds. -/
def bannerDelayOf : Nat → Nat
  | 0 => 250
  | 1 => 500
  | 2 => 1000
  | _ => 2000

/-- The doze delay of a code, in milliseconds. -/
def dozeDelayOf : Nat → Nat
  | 0 => 10000
  | 1 => 30000
  | 2 => 60000
  | _ => 300000

/-- The checks of SET_OUTAGE (R157). -/
def setOutageCheck (r : Record) : Option Reason :=
  firstFailure
    [(decide (r.body.length = 1), .length), (decide (headByte r 0 ≤ 3) && decide (headByte r 1 ≤ 3), .range)]

/-- SET_OUTAGE (R157): both delays apply to the running timers, so a banner may be due and the doze timer may expire at
once. -/
def execSetOutage (s : State) : Host.Outcome State Fault Refusal :=
  live s (takeControl 0x2D setOutageCheck (fun r s =>
    let s1 := { s with power := { s.power with
      bannerDelay := bannerDelayOf (headByte r 0), dozeDelay := dozeDelayOf (headByte r 1) } }
    let s2 := if bannerDelayReached s1 then s1.bannerReached else s1
    if dozeExpired s2 then s2.enterEntering else s2))

/-! ## SET_NOTICE (R172) -/

/-- SET_NOTICE (R172): the mask is written; a NOTICE already pending stays, and none is made pending. -/
def execSetNotice (s : State) : Host.Outcome State Fault Refusal :=
  live s (takeControl 0x2E (lengthCheck 1) (fun r s =>
    { s with status := { s.status with noticeMask := byteOf (wordAt r.body 0) 0 } }))

/-! ## RESET and CLEAR_COUNTS (R36 to R38) -/

/-- A soft reset (R36, R37): pens, panes, digest unit, status unit and the last-refusal record. -/
def State.softReset (s : State) : State :=
  let s1 := s.softResetDigest.softResetStatus
  { s1 with
    engine := { s1.engine with pens := .ofFn 32 (fun _ => Pen.atReset) }
    panes := .ofFn 16 Pane.atReset
    dec := { s1.dec with lastRefusal := none } }

/-- RESET (R36). -/
def execReset (s : State) : Host.Outcome State Fault Refusal :=
  live s (takeControl 0x30 (lengthCheck 0) (fun _ => State.softReset))

/-- CLEAR_COUNTS (R38): the 15 counters and the clip flags of all four shade sets. -/
def execClearCounts (s : State) : Host.Outcome State Fault Refusal :=
  live s (takeControl 0x31 (lengthCheck 0) (fun _ s =>
    let s1 := s.zeroCounters
    { s1 with colour := { s1.colour with sets := s1.colour.sets.mapIdx (fun _ x => { x with clip := false }) } }))

end Sys2Proof.Machine
end

