-- ==== Sys2Proof/Machine/Ask.lean ====
section
/-! DEFINITION. The ASK records and their answers (R33 to R35, R55, R56, R95, R96, R175, R178, R179), and SLOT_GRANTED. -/

namespace Sys2Proof.Machine

/-! ## Building an answer -/

/-- The status of a refused ASK record (R35). -/
def Reason.status : Reason → ReplyStatus
  | .range => .range
  | .length => .length
  | .busy => .busy
  | .misplaced => .range
  | .noPane => .range

/-- A refused ASK record (R35): the refusal is made under R30 and the reply carries the reason, with no body. -/
def State.refuseAsk (s : State) (n : Nat) (f : RxFrame) (r : Record) (reason : Reason) : State :=
  (s.refuseRecord f r reason).finishReply n r.kind r.tag reason.status []

/-- An ASK record in its reserved slot `n`, answered when it is taken (R35): refused by its first failing check, or
answered from the state at this moment. -/
def answerWith (check : Record → Option Reason) (body : Record → State → List Word) (n : Nat) (f : RxFrame) (r : Record)
    (s : State) : State :=
  match check r with
  | some reason => s.refuseAsk n f r reason
  | none => s.finishReply n r.kind r.tag .ok (body r s)

/-! ## ASK_STATUS (R175) -/

def LinkState.code : LinkState → Byte
  | .absent => 0
  | .acquiring => 1
  | .up => 2
  | .quiet => 3

def Device.code : Device → Byte
  | .active => 0
  | .entering => 1
  | .doze => 2
  | .waking => 3

def PanelState.code : PanelState → Byte
  | .off => 0
  | .powerUp _ => 1
  | .blankFrames _ => 1
  | .running => 2
  | .stopping _ => 3

def PanelRequest.code : PanelRequest → Byte
  | .none => 0
  | .start => 1
  | .stop => 2

def Reason.code : Reason → Byte
  | .range => 1
  | .length => 2
  | .misplaced => 3
  | .noPane => 4
  | .busy => 5

/-- A byte whose bit n is `f n`. -/
def maskByte (f : Nat → Bool) : Byte := (List.range 8).foldl (fun a n => if f n then a ||| (1#8 <<< n) else a) 0

/-- A 16-bit mask whose bit n is `f n`. -/
def maskHalf (f : Nat → Bool) : BitVec 16 :=
  (List.range 16).foldl (fun a n => if f n then a ||| (1#16 <<< n) else a) 0

/-- The modes in force: bit 0 BLANK, bit 1 PARTIAL, bit 2 idle on. -/
def modesByte (p : Panel) : Byte :=
  maskByte (fun n => match n with
    | 0 => decide (p.display = .blank)
    | 1 => decide (p.area ≠ .full)
    | 2 => p.idleMode
    | _ => false)

/-- The band, 0 and 0 when FULL. -/
def bandWord : Area → Word
  | .full => 0
  | .band top bottom => wordOfHalves (half top) (half bottom)

/-- Words 11 and 12 of the STATUS body: the last-refusal record and its source. -/
def lastRefusalWords : Option LastRefusal → List Word
  | none => [0, 0]
  | some l =>
    [ wordOfBytes l.kind l.tag (l.sequence.getD 0) l.reason.code,
      wordOfBytes (if l.sequence.isSome then 1 else 2) 0 0 0 ]

/-- Words 13 to 20: the 15 counters, two bytes each, in the order of the counter table. -/
def counterWords (c : Table Nat 15) : List Word :=
  (List.range 8).map fun k => wordOfHalves (half (c.get (2 * k))) (if k = 7 then 0 else half (c.get (2 * k + 1)))

/-- The 21 words of the STATUS body (chapter Formats). -/
def statusBody (s : State) : List Word :=
  [ wordOfBytes s.status.summary s.status.noticeMask s.link.state.code s.power.device.code,
    s.status.timeBase,
    wordOfHalves s.scan.frameCounter (half (occupancy s.rxq.frames)),
    wordOfBytes (byte s.rxq.frames.length) (byte s.keyq.events.length) (byte s.keys.held.length)
      (maskByte (fun n => decide (n < 4) && (s.colour.sets.get n).clip)),
    wordOfBytes s.panel.state.code s.panel.request.code (modesByte s.panel) (byte s.panel.target),
    wordOfHalves (half s.panel.actual) (maskHalf (fun n => (s.panes.get n).lost)),
    bandWord s.panel.area ]
  ++ (List.range 4).map (fun k => wordOfBytes (s.panes.get (4 * k)).digest.code (s.panes.get (4 * k + 1)).digest.code
      (s.panes.get (4 * k + 2)).digest.code (s.panes.get (4 * k + 3)).digest.code)
  ++ lastRefusalWords s.dec.lastRefusal
  ++ counterWords s.status.counters

/-- The checks of ASK_STATUS: the clear option in byte 0 (R175). -/
def askStatusCheck (r : Record) : Option Reason :=
  firstFailure [(decide (r.body.length = 1), .length), (decide (headByte r 0 ≤ 1), .range)]

/-- The answer of ASK_STATUS, and with clear option 1 in UP or QUIET the clearing of the summary once it is built. -/
def answerStatus (n : Nat) (f : RxFrame) (r : Record) (s : State) : State :=
  let s1 := answerWith askStatusCheck (fun _ => statusBody) n f r s
  if askStatusCheck r = none ∧ headByte r 0 = 1 ∧ s.link.state.alive = true then s1.clearSummary else s1

/-! ## ASK_DIGEST (R95, R96) -/

/-- The pane mask of an ASK_DIGEST body. -/
def digestMaskOf (r : Record) : BitVec 16 := halfOf (wordAt r.body 0) 0

/-- The answer of ASK_DIGEST: refused with LENGTH, or with BUSY while a request is outstanding; otherwise the record
becomes the outstanding request. -/
def answerDigest (n : Nat) (f : RxFrame) (r : Record) (s : State) : State :=
  match firstFailure [(decide (r.body.length = 1), .length), (s.digest.request.isNone, .busy)] with
  | some reason => s.refuseAsk n f r reason
  | none => s.acceptDigestRequest { mask := digestMaskOf r, tag := r.tag, slot := n }

/-! ## ASK_CELL (R55, R56) -/

/-- The row of an ASK_CELL body; the cell column is byte 0 of word 0. -/
def cellRow (r : Record) : Nat := (halfOf (wordAt r.body 0) 1).toNat

/-- The checks of ASK_CELL (R55). -/
def askCellCheck (r : Record) : Option Reason :=
  firstFailure
    [(decide (r.body.length = 2), .length), (decide (headByte r 0 ≤ 39) && decide (cellRow r ≤ 1535), .range)]

/-- The word whose bit 31 − i is `f i` for pixel i of the cell, counted from the left. -/
def cellWord (f : Nat → Bool) : Word :=
  (List.range 32).foldl (fun a i => if f i then a ||| (1#32 <<< (31 - i)) else a) 0

/-- The nine words of the answer (R56). -/
def cellBody (r : Record) (s : State) : List Word :=
  let index (i : Nat) : Byte := s.pixel (32 * headByte r 0 + i) (cellRow r)
  let compare := byteOf (wordAt r.body 1) 0
  let care := byteOf (wordAt r.body 1) 1
  (List.range 8).map (fun p => cellWord (fun i => (index i).getLsbD p))
    ++ [cellWord (fun i => decide ((index i ^^^ compare) &&& care = 0))]

def answerCell : Nat → RxFrame → Record → State → State := answerWith askCellCheck cellBody

/-! ## ASK_TABLE (R178) -/

/-- The greatest entry number of a table; none for a code that names no table. -/
def tableLimit : Nat → Option Nat
  | 0 => some 31
  | 1 => some 15
  | 2 => some 255
  | 3 => some 3
  | 4 => some 127
  | _ => none

/-- The entry number lies in its table, and for KEYMAP the layer is 0 or 1. -/
def tableEntryExists (table layer entry : Nat) : Bool :=
  match tableLimit table with
  | some m => decide (entry ≤ m) && (decide (table ≠ 4) || decide (layer ≤ 1))
  | none => false

/-- The checks of ASK_TABLE (R178): table, layer and entry in bytes 0, 1 and 2. -/
def askTableCheck (r : Record) : Option Reason :=
  firstFailure
    [ (decide (r.body.length = 1), .length), (tableEntryExists (headByte r 0) (headByte r 1) (headByte r 2), .range) ]

def Alu.code : Alu → Byte
  | .copy => 0
  | .and => 1
  | .or => 2
  | .xor => 3

def BitOrder.code : BitOrder → Byte
  | .msbFirst => 0
  | .lsbFirst => 1

def Access.code : Access → Byte
  | .opened => 0
  | .shut => 1

/-- A pen in its load layout. -/
def penWords (n : Nat) (p : Pen) : List Word :=
  [ wordOfBytes (byte n) p.fg p.bg (flagByte p.opaqueBg),
    wordOfBytes p.alu.code p.bitOrder.code p.planeMask p.keyColour,
    wordOfBytes p.keyCare 0 0 0,
    p.stipple ]

/-- The digest value is present (R45). -/
def DigestState.present : DigestState → Bool
  | .valid _ => true
  | .none => false
  | .pending => false
  | .running => false
  | .stale => false

/-- A pane in its load layout, then its digest state, lost, presence bits and digest value. -/
def paneWords (n : Nat) (p : Pane) : List Word :=
  [ wordOfBytes (byte n) (flagByte p.valid) p.access.code (byte p.shadeSet),
    wordOfHalves (half p.left) (half p.top),
    wordOfHalves (half p.width) (half p.height),
    wordOfBytes p.fill 0 0 0,
    wordOfBytes p.digest.code (flagByte p.lost) (flagByte p.digest.present) 0,
    wordOfHalves p.digest.value 0 ]

/-- A palette entry in its load layout. -/
def paletteWords (e : PaletteEntry) : List Word :=
  [ wordOfHalves (half e.colour.red) (half e.colour.green),
    wordOfHalves (half e.colour.blue) (halfOfBytes (flagByte e.fixed) 0) ]

/-- A shade set in its load layout, with its clip flag in byte 1 of word 0. -/
def shadeWords (n : Nat) (x : ShadeSet) : List Word :=
  [ wordOfBytes (byte n) (flagByte x.clip) 0 0,
    wordOfHalves (half x.gain.red) (BitVec.ofInt 16 x.offset.red),
    wordOfHalves (half x.gain.green) (BitVec.ofInt 16 x.offset.green),
    wordOfHalves (half x.gain.blue) (BitVec.ofInt 16 x.offset.blue) ]

/-- The code of a keymap action (chapter Formats). -/
def KeyAction.code : KeyAction → Byte
  | .key => 0
  | .fn => 1
  | .lamp _ => 2
  | .ignore => 3

/-- The lamp number of an action; an action that has none sends 0 (R180): DEDUCED (notes/assumptions/10.md). -/
def KeyAction.lampNumber : KeyAction → Nat
  | .lamp n => n
  | .key => 0
  | .fn => 0
  | .ignore => 0

/-- A keymap entry in its load layout. -/
def keymapWords (e : KeymapEntry) : List Word := [wordOfBytes e.code e.action.code (byte e.action.lampNumber) 0]

/-- The entry that an accepted ASK_TABLE returns (R178). -/
def tableEntryWords (s : State) (table layer entry : Nat) : List Word :=
  match table with
  | 0 => penWords entry (s.engine.pens.get entry)
  | 1 => paneWords entry (s.panes.get entry)
  | 2 => paletteWords (s.colour.palette.get entry)
  | 3 => shadeWords entry (s.colour.sets.get entry)
  | _ => keymapWords (s.keys.entry layer entry)

/-- The answer body of ASK_TABLE: word 0 as in the request, with its reserved byte 0, then the entry. -/
def tableBody (r : Record) (s : State) : List Word :=
  wordOfBytes (byteOf (wordAt r.body 0) 0) (byteOf (wordAt r.body 0) 1) (byteOf (wordAt r.body 0) 2) 0 ::
    tableEntryWords s (headByte r 0) (headByte r 1) (headByte r 2)

def answerTable : Nat → RxFrame → Record → State → State := answerWith askTableCheck tableBody

/-! ## ASK_ID (R179) -/

/-- The eight words of the identification body (R179, chapter Formats). -/
def identificationBody : List Word :=
  [ wordOfHalves 0x0A17 0xDB40,
    wordOfBytes 2 8 32 0,
    wordOfHalves 1280 1536,
    wordOfBytes 32 16 4 2,
    wordOfHalves 256 128,
    wordOfBytes 32 10 8 4,
    wordOfHalves 16 8192,
    wordOfHalves 1024 (halfOfBytes 15 0) ]

def answerId : Nat → RxFrame → Record → State → State := answerWith (lengthCheck 0) (fun _ _ => identificationBody)

/-! ## Taking an ASK record (R29, R34) -/

/-- The decoder deals with the ASK record at its cursor: misplaced in a DRAW frame; otherwise a FREE slot is reserved and
the record examined and answered, or with no FREE slot the decoder goes to SLOT_WAIT on it. -/
def takeAsk (code : Byte) (answer : Nat → RxFrame → Record → State → State) (s : State) : State :=
  match s.recordOf? code with
  | none => s
  | some (f, r) =>
    if f.kind = .draw then (s.refuseRecord f r .misplaced).advance r
    else
      match s.freeSlot with
      | some n => (answer n f r (s.setSlot n (.reserved r.kind r.tag))).advance r
      | none =>
        match s.dec.state with
        | .walking c => s.setDecoder (.slotWait c)
        | .idle => s
        | .syncWait => s
        | .slotWait _ => s

/-- ASK_STATUS (R175). -/
def execAskStatus (s : State) : Host.Outcome State Fault Refusal := live s (takeAsk 0x38 answerStatus)

/-- ASK_DIGEST (R95, R96). -/
def execAskDigest (s : State) : Host.Outcome State Fault Refusal := live s (takeAsk 0x39 answerDigest)

/-- ASK_CELL (R55, R56). -/
def execAskCell (s : State) : Host.Outcome State Fault Refusal := live s (takeAsk 0x3A answerCell)

/-- ASK_TABLE (R178). -/
def execAskTable (s : State) : Host.Outcome State Fault Refusal := live s (takeAsk 0x3B answerTable)

/-- ASK_ID (R179). -/
def execAskId (s : State) : Host.Outcome State Fault Refusal := live s (takeAsk 0x3C answerId)

/-- The answer of the ASK record of a code. -/
def answerOf (code : Byte) : Nat → RxFrame → Record → State → State :=
  match code.toNat with
  | 0x38 => answerStatus
  | 0x39 => answerDigest
  | 0x3A => answerCell
  | 0x3B => answerTable
  | 0x3C => answerId
  | _ => fun _ _ _ s => s

/-- SLOT_GRANTED (R34): in SLOT_WAIT, a slot that is FREE is reserved for the waiting record, the decoder returns to
WALKING, and the record is examined and answered. -/
def execSlotGranted (s : State) : Host.Outcome State Fault Refusal :=
  live s (fun s =>
    match s.dec.state with
    | .slotWait c =>
      match s.freeSlot, s.atCursor with
      | some n, some (f, .whole r) =>
        (answerOf r.kind n f r ((s.setDecoder (.walking c)).setSlot n (.reserved r.kind r.tag))).advance r
      | _, _ => s
    | .idle => s
    | .syncWait => s
    | .walking _ => s)

end Sys2Proof.Machine
end

