-- ==== Sys2Proof/Machine/Walk.lean ====
section
/-! DEFINITION. The frame decoder's own steps: FRAME_TAKE, UNKNOWN_RECORD and BROKEN_RECORD (R22 to R28). -/

namespace Sys2Proof.Machine

/-- The conditions on which the idle decoder takes the oldest frame (R23). -/
def takeDue (s : State) : Bool :=
  decide (s.dec.state = .idle) && !s.rxq.frames.isEmpty &&
    (decide (s.power.device = .active) || decide (s.power.device = .entering)) &&
    decide (s.engine.holder ≠ .banner) && decide (s.engine.holder ≠ .clearPass)

/-- The oldest frame has SYNC set. -/
def oldestSyncs (frames : List RxFrame) : Bool :=
  match frames with
  | f :: _ => f.sync
  | [] => false

/-- FRAME_TAKE (R23, R24): a SYNC frame waits for a frame end while the panel is scanning; otherwise the frame is walked
from offset 0. -/
def execFrameTake (s : State) : Host.Outcome State Fault Refusal :=
  onEvent s (takeDue s) (fun s =>
    if oldestSyncs s.rxq.frames && s.panel.state.scanning then s.setDecoder .syncWait else s.walkFrom 0)

/-- UNKNOWN_RECORD (R28): a record whose kind code names no kind is skipped and counted UNKNOWN. -/
def execUnknownRecord (s : State) : Host.Outcome State Fault Refusal :=
  live s (fun s =>
    match s.record? with
    | some (_, r) =>
      if isDrawCode r.kind ∨ isControlCode r.kind then s else (s.count .unknown).advance r
    | none => s)

/-- BROKEN_RECORD (R26): a record that runs past the payload end discards the rest of the frame, counted MALFORMED. -/
def execBrokenRecord (s : State) : Host.Outcome State Fault Refusal :=
  onEvent s s.isWalking (fun s =>
    match s.atCursor with
    | some (_, .broken) => (s.count .malformed).finishFrame
    | some (_, .whole _) => s
    | none => s)

end Sys2Proof.Machine
end

