-- ==== Sys2Proof/Machine/Reset.lean ====
section
/-! DEFINITION. The reset line (R39, R44, R76, R106, R163). -/

namespace Sys2Proof.Machine

/-- RESET_ASSERT (R163): all work ends at once and every block takes its hardware-reset values. The pixels already written
keep their indices until the clear pass, a cut clear pass's own among them (R76). The raw contact is a line, which a reset
does not move: DESIGN CHOICE (notes/assumptions/1.md). The engine is FREE until the reset ends: DEDUCED
(notes/assumptions/13.md). -/
def execResetAssert (s : State) : Host.Outcome State Fault Refusal :=
  .next { State.reset with
    resetLine := true
    store := s.store
    link := { LinkPort.atReset with contact := s.link.contact }
    engine := { State.reset.engine with holder := .free }
    turn := s.turn
    pending := s.pending }

/-- RESET_RELEASE (R44, R76): the reset ends, the holder becomes CLEAR_PASS, the clear pass begins from the first pixel, and
the stability timer starts from the reset (R2). -/
def execResetRelease (s : State) : Host.Outcome State Fault Refusal :=
  .next (if s.resetLine then
    { s with
      resetLine := false
      link := { s.link with stability := 0 }
      engine := { s.engine with holder := .clearPass, cleared := 0 } }
    else s)

end Sys2Proof.Machine
end

