-- ==== Sys2Proof/Machine/Tick.lean ====
section
/-! DEFINITION. What the part does on its own when no command waits: the steps that the state calls for at once, and the
passing of one millisecond with the steps that then fall due. DESIGN CHOICE (notes/assumptions/3.md). -/

namespace Sys2Proof.Machine

/-! ## The steps that the state calls for at once -/

/-- The step of a PANEL record; one that names no action is refused by any of the eight steps (notes/assumptions/8.md). -/
def panelCommand (r : Record) : Instr :=
  match panelActionOf r with
  | some .start => .panelStart
  | some .stop => .panelStop
  | some .full => .panelFull
  | some .partialBand => .panelPartial
  | some .idleOn => .panelIdleOn
  | some .idleOff => .panelIdleOff
  | some .show => .panelShow
  | some .blank => .panelBlank
  | none => .panelStart

/-- The step that deals with a whole record, by its kind code (R181). -/
def recordCommand (r : Record) : Instr :=
  match r.kind.toNat with
  | 0x10 => .fill
  | 0x11 => .clear
  | 0x12 => .glyph
  | 0x13 => .planes
  | 0x14 => .move
  | 0x15 => .keymove
  | 0x20 => .loadPen
  | 0x21 => .loadPane
  | 0x22 => .loadPalette
  | 0x23 => .loadShade
  | 0x24 => .loadKeymap
  | 0x25 => .loadBanner
  | 0x26 => .setBanner
  | 0x27 => .setView
  | 0x28 => panelCommand r
  | 0x29 => .backlight
  | 0x2A => .lamps
  | 0x2B => .setLink
  | 0x2C => .setKeys
  | 0x2D => .setOutage
  | 0x2E => .setNotice
  | 0x2F => .doze
  | 0x30 => .reset
  | 0x31 => .clearCounts
  | 0x38 => .askStatus
  | 0x39 => .askDigest
  | 0x3A => .askCell
  | 0x3B => .askTable
  | 0x3C => .askId
  | _ => .unknownRecord

/-- The record at the cursor waits for the draw engine (R73). -/
def waitsForEngine (s : State) (f : RxFrame) (r : Record) : Bool :=
  isDrawCode r.kind && decide (f.kind = .draw) && decide (s.engine.holder ≠ .free)

/-- The decoder's next step: a frame to take, a record to deal with, or a slot granted (R23, R25, R34). -/
def decoderSteps (s : State) : List Instr :=
  match s.dec.state with
  | .idle => if takeDue s then [.frameTake] else []
  | .syncWait => []
  | .walking _ =>
    match s.atCursor with
    | some (_, .broken) => [.brokenRecord]
    | some (f, .whole r) => if waitsForEngine s f r then [] else [recordCommand r]
    | none => []
  | .slotWait _ => if s.freeSlot.isSome then [.slotGranted] else []

/-- The transmitter's next step (R17, R18). -/
def transmitterSteps (s : State) : List Instr :=
  if flowSymbolDue s then [.flowSymbolSend]
  else if keysDue s then [.keysFrameStart]
  else if replyDue s then [.replyFrameStart]
  else if noticeDue s then [.noticeFrameStart]
  else []

/-- The steps that are called for at this moment. -/
def stepsCalledFor (s : State) : List Instr :=
  decoderSteps s ++ transmitterSteps s ++ (if bannerGrantDue s then [.bannerGrant] else []) ++
    (if passDue s then [.retentionPassStart] else [])

/-! ## The passing of a millisecond -/

/-- The draw engine deals with some further pixels: of the store in the clear pass, of the record in hand otherwise. How many
is not known (Config.engineProgress). The last pixel is not among them: work ends at the moment its last pixel is dealt with
(R44, R60, R72), so that pixel is dealt with by the command that ends the work. -/
def State.engineRuns (s : State) : State :=
  let k := Config.engineProgress s.turn
  if s.engine.holder = .clearPass then
    { s.clearUpTo (min (storePixels - 1) (s.engine.cleared + k)) with turn := s.turn + 1 }
  else
    match s.engine.job with
    | none => s
    | some job =>
      let n := min (job.todo.length - 1) k
      let s1 := s.paint job (job.todo.take n)
      { s1.setEngine s.engine.holder (some { job with todo := job.todo.drop n }) with turn := s.turn + 1 }

/-- While the panel is scanning, the scanout engine sends some further positions of the frame under way, in raster order
(R127). How many is not known (Config.scanProgress). The last position is sent by FRAME_END, which comes after it. -/
def State.scanRuns (s : State) : State :=
  if s.panel.state.scanning then { s with scan := s.scan.scanOn (Config.scanProgress s.turn), turn := s.turn + 1 } else s

/-- The panel's timed phase, one millisecond on (R130, R131). -/
def PanelState.later : PanelState → PanelState
  | .powerUp t => .powerUp (t + 1)
  | .stopping t => .stopping (t + 1)
  | .off => .off
  | .blankFrames n => .blankFrames n
  | .running => .running

/-- Outage and power control, one millisecond on: the oscillator wait, the outage timer in every device power state (R156),
and the doze timer while the link is ABSENT and the device ACTIVE (R164). -/
def Power.later (p : Power) (link : LinkState) : Power :=
  { p with
    oscillator := p.oscillator.map (· + 1)
    outage := p.outage.map (· + 1)
    dozeTimer := if link = .absent ∧ p.device = .active then p.dozeTimer + 1 else p.dozeTimer }

/-- Every timer of the part and the time base, one millisecond on (R2, R6, R130, R131, R137, R156, R164, R170, R176). -/
def State.timersRun (s : State) : State :=
  { s with
    status := { s.status with timeBase := s.status.timeBase + 1 }
    link := { s.link with stability := s.link.stability + 1, silence := s.link.silence + 1 }
    panel := { s.panel with state := s.panel.state.later }
    keys := { s.keys with sinceScan := s.keys.sinceScan + 1 }
    power := s.power.later s.link.state }

/-- A step that falls due under a condition. -/
def dueStep (due : Bool) (c : Instr) : List Instr := if due then [c] else []

/-- The steps whose time has come. -/
def timedSteps (s : State) : List Instr :=
  dueStep (presenceClosedDue s) .presenceClosed ++ dueStep (presenceOpenDue s) .presenceOpen ++
    dueStep (silenceDue s) .silenceTimeout ++ dueStep (oscillatorDue s) .oscillatorWaitEnd ++
    dueStep (dozeExpired s) .dozeTimerExpiry ++ dueStep (bannerDelayReached s) .bannerDelayExpiry ++
    dueStep (powerUpDue s) .powerUpEnd ++ dueStep (powerDownDue s) .powerDownEnd

/-! ## The order of steps that fall together -/

/-- Steps that fall together come in an order that is not known (Config.eventOrder, notes/assumptions/4.md); a step alone
has none to choose. -/
def arrange (turn : Nat) : List Instr → List Instr
  | [] => []
  | [c] => [c]
  | c :: d :: rest =>
    (arrange turn (d :: rest)).insertIdx (Config.eventOrder turn rest.length % (rest.length + 2)) c

/-- The steps join the queue of waiting commands. -/
def State.queueSteps (s : State) (cs : List Instr) : State :=
  { s with pending := s.pending ++ arrange s.turn cs, turn := s.turn + 1 }

/-- One millisecond passes. -/
def State.tick (s : State) : State :=
  let s1 := s.engineRuns.scanRuns.timersRun
  s1.queueSteps (timedSteps s1)

/-- No command waits: while the reset line is asserted nothing happens (R163); steps called for at once are queued, with no
time passing; otherwise one millisecond passes. -/
def State.idle (s : State) : State :=
  if s.resetLine then s
  else if stepsCalledFor s = [] then s.tick
  else s.queueSteps (stepsCalledFor s)

end Sys2Proof.Machine
end

