-- ==== Sys2Proof/Machine/Dispatch.lean ====
section
/-! DEFINITION. The dispatch of commands to their meanings: one arm for each row of the table. -/

namespace Sys2Proof.Machine

def exec (i : Instr) (s : State) : Host.Outcome State Fault Refusal :=
  match i with
  | .resetAssert => Sys2Proof.Machine.execResetAssert s
  | .resetRelease => Sys2Proof.Machine.execResetRelease s
  | .clearPassEnd => Sys2Proof.Machine.execClearPassEnd s
  | .presenceContactChange contact => Sys2Proof.Machine.execPresenceContactChange contact s
  | .presenceClosed => Sys2Proof.Machine.execPresenceClosed s
  | .presenceOpen => Sys2Proof.Machine.execPresenceOpen s
  | .laneLockGained => Sys2Proof.Machine.execLaneLockGained s
  | .laneLockLost => Sys2Proof.Machine.execLaneLockLost s
  | .startSymbol => Sys2Proof.Machine.execStartSymbol s
  | .dataSymbol byte => Sys2Proof.Machine.execDataSymbol byte s
  | .silenceTimeout => Sys2Proof.Machine.execSilenceTimeout s
  | .frameTake => Sys2Proof.Machine.execFrameTake s
  | .slotGranted => Sys2Proof.Machine.execSlotGranted s
  | .unknownRecord => Sys2Proof.Machine.execUnknownRecord s
  | .brokenRecord => Sys2Proof.Machine.execBrokenRecord s
  | .fill => Sys2Proof.Machine.execFill s
  | .clear => Sys2Proof.Machine.execClear s
  | .glyph => Sys2Proof.Machine.execGlyph s
  | .planes => Sys2Proof.Machine.execPlanes s
  | .move => Sys2Proof.Machine.execMove s
  | .keymove => Sys2Proof.Machine.execKeymove s
  | .drawComplete => Sys2Proof.Machine.execDrawComplete s
  | .loadPen => Sys2Proof.Machine.execLoadPen s
  | .loadPane => Sys2Proof.Machine.execLoadPane s
  | .loadPalette => Sys2Proof.Machine.execLoadPalette s
  | .loadShade => Sys2Proof.Machine.execLoadShade s
  | .loadKeymap => Sys2Proof.Machine.execLoadKeymap s
  | .loadBanner => Sys2Proof.Machine.execLoadBanner s
  | .setBanner => Sys2Proof.Machine.execSetBanner s
  | .setView => Sys2Proof.Machine.execSetView s
  | .panelStart => Sys2Proof.Machine.execPanelStart s
  | .panelStop => Sys2Proof.Machine.execPanelStop s
  | .panelFull => Sys2Proof.Machine.execPanelFull s
  | .panelPartial => Sys2Proof.Machine.execPanelPartial s
  | .panelIdleOn => Sys2Proof.Machine.execPanelIdleOn s
  | .panelIdleOff => Sys2Proof.Machine.execPanelIdleOff s
  | .panelShow => Sys2Proof.Machine.execPanelShow s
  | .panelBlank => Sys2Proof.Machine.execPanelBlank s
  | .backlight => Sys2Proof.Machine.execBacklight s
  | .lamps => Sys2Proof.Machine.execLamps s
  | .setLink => Sys2Proof.Machine.execSetLink s
  | .setKeys => Sys2Proof.Machine.execSetKeys s
  | .setOutage => Sys2Proof.Machine.execSetOutage s
  | .setNotice => Sys2Proof.Machine.execSetNotice s
  | .doze => Sys2Proof.Machine.execDoze s
  | .reset => Sys2Proof.Machine.execReset s
  | .clearCounts => Sys2Proof.Machine.execClearCounts s
  | .askStatus => Sys2Proof.Machine.execAskStatus s
  | .askDigest => Sys2Proof.Machine.execAskDigest s
  | .askCell => Sys2Proof.Machine.execAskCell s
  | .askTable => Sys2Proof.Machine.execAskTable s
  | .askId => Sys2Proof.Machine.execAskId s
  | .digestRunEnd => Sys2Proof.Machine.execDigestRunEnd s
  | .retentionPassStart => Sys2Proof.Machine.execRetentionPassStart s
  | .retentionPassPaneDone => Sys2Proof.Machine.execRetentionPassPaneDone s
  | .oscillatorWaitEnd => Sys2Proof.Machine.execOscillatorWaitEnd s
  | .retentionCheckPaneDone => Sys2Proof.Machine.execRetentionCheckPaneDone s
  | .retentionClearPaneDone => Sys2Proof.Machine.execRetentionClearPaneDone s
  | .dozeTimerExpiry => Sys2Proof.Machine.execDozeTimerExpiry s
  | .bannerDelayExpiry => Sys2Proof.Machine.execBannerDelayExpiry s
  | .bannerGrant => Sys2Proof.Machine.execBannerGrant s
  | .bannerRecordDone => Sys2Proof.Machine.execBannerRecordDone s
  | .powerUpEnd => Sys2Proof.Machine.execPowerUpEnd s
  | .powerDownEnd => Sys2Proof.Machine.execPowerDownEnd s
  | .frameEnd => Sys2Proof.Machine.execFrameEnd s
  | .keyScan raw => Sys2Proof.Machine.execKeyScan raw s
  | .flowSymbolSend => Sys2Proof.Machine.execFlowSymbolSend s
  | .keysFrameStart => Sys2Proof.Machine.execKeysFrameStart s
  | .replyFrameStart => Sys2Proof.Machine.execReplyFrameStart s
  | .noticeFrameStart => Sys2Proof.Machine.execNoticeFrameStart s
  | .upstreamFrameEnd => Sys2Proof.Machine.execUpstreamFrameEnd s
  | .recomputeStep => Sys2Proof.Machine.execRecomputeStep s
  | .dozePixelLoss x y index => Sys2Proof.Machine.execDozePixelLoss x y index s

end Sys2Proof.Machine
end

