-- ==== Sys2Proof/Machine/Scanout.lean ====
section
/-! DEFINITION. What the panel shows: from a physical position to the three values sent to the panel (R123 to R126),
and the order in which a frame sends its positions (R127). These are readings of the state, not steps; the scan itself moves
by Scanout.scanOn, in State.scanRuns and in FRAME_END. -/

namespace Sys2Proof.Machine

/-- The logical position shown at a physical one, by the view's orientation (R123). -/
def logicalOf (v : View) (px py : Nat) : Nat × Nat :=
  let px' := if v.mirrorX then 1279 - px else px
  let py' := if v.mirrorY then 799 - py else py
  if v.swap then (py', px') else (px', py')

/-- The frame-store pixel shown at a logical position, by origin and split (R124). -/
def storePixelOf (v : View) (lx ly : Nat) : Nat × Nat :=
  if ly < v.split then ((v.ox + lx) % 1280, (v.oy + ly) % 1536)
  else ((v.sx + lx) % 1280, (v.sy + (ly - v.split)) % 1536)

/-- The frame-store pixel shown at a physical position. -/
def shownPixel (v : View) (px py : Nat) : Nat × Nat :=
  storePixelOf v (logicalOf v px py).1 (logicalOf v px py).2

/-- The colour of a frame-store pixel (R125): its index masked by the plane enable, in the shade set of its claiming pane,
reduced in idle mode. -/
def pixelColour (s : State) (x y : Nat) : Rgb Nat :=
  let index := (s.pixel x y &&& s.scan.active.planeEnable).toNat
  let set := (s.panes.get (claimingPane s.panes x y)).shadeSet
  let c := s.colour.shaded.get (set * 256 + index)
  if s.panel.idleMode then ⟨idleReduced c.red, idleReduced c.green, idleReduced c.blue⟩ else c

/-- The position is sent black (R126): the panel is not RUNNING, the display mode is BLANK, or the physical line lies
outside the band of PARTIAL; and in DOZE, in which no frame-store pixel is read. -/
def isBlack (s : State) (py : Nat) : Bool :=
  decide (s.panel.state ≠ .running) || decide (s.panel.display = .blank) ||
    decide (s.power.device = .doze) ||
    (match s.panel.area with
     | .full => false
     | .band top bottom => decide (py < top) || decide (bottom < py))

/-- The three values sent to the panel at a physical position (R125, R126). -/
def panelOutput (s : State) (px py : Nat) : Rgb Nat :=
  if isBlack s py then ⟨0, 0, 0⟩
  else pixelColour s (shownPixel s.scan.active px py).1 (shownPixel s.scan.active px py).2

/-! ## The order of a frame (R127) -/

/-- The physical position, as column and line, that a frame sends after k others: physical lines from 0 to 799, and along
each line physical columns from 0 to 1279 (R127). -/
def rasterPosition (k : Nat) : Nat × Nat := (k % 1280, k / 1280)

/-- The physical position that is sent next; none while the panel is not scanning, and none where every position of the
frame has been sent and only the frame end is to come (R127). -/
def State.scanPosition (s : State) : Option (Nat × Nat) :=
  if s.panel.state.scanning && decide (s.scan.scanned < panelPositions) then some (rasterPosition s.scan.scanned) else none

/-- What the panel is sent, first to last, while the scan goes on by k positions, or by those that the frame has left: each
position in its turn (R127), with its three values (R125, R126). -/
def State.sentNext (s : State) (k : Nat) : List (Rgb Nat) :=
  if s.panel.state.scanning then
    (List.range' s.scan.scanned (min k (panelPositions - s.scan.scanned))).map
      (fun n => panelOutput s (rasterPosition n).1 (rasterPosition n).2)
  else []

end Sys2Proof.Machine
end

