-- ==== Sys2Proof/Safety.lean ====
section
/-! DEFINITION. What a sound state of the part is: for each block, what the rules say always holds of it, and how the
blocks agree with one another. Each is stated in Certificates/Slice0/Obligations.lean as kept by every step. -/

namespace Sys2Proof.Machine

/-! ## Frame store and panes -/

/-- The rectangle lies wholly inside the frame store (R45, R47). -/
def Pane.inStore (p : Pane) : Prop :=
  1 ≤ p.width ∧ p.left + p.width ≤ 1280 ∧ 1 ≤ p.height ∧ p.top + p.height ≤ 1536

/-- Pane 0 is valid and covers the whole store; every rectangle of the table lies inside the store (R45, R46, R49). -/
structure PanesSound (s : State) : Prop where
  whole : (s.panes.get 0).valid = true ∧ (s.panes.get 0).left = 0 ∧ (s.panes.get 0).top = 0 ∧
    (s.panes.get 0).width = 1280 ∧ (s.panes.get 0).height = 1536
  inside : ∀ n < 16, (s.panes.get n).inStore

/-- Every pixel that the record in hand has still to deal with lies in the frame store (R80, R88). -/
def Job.inStore (job : Job) : Prop :=
  ∀ o ∈ job.todo, 0 ≤ job.left + o.1 ∧ job.left + o.1 < 1280 ∧ 0 ≤ job.top + o.2 ∧ job.top + o.2 < 1536

/-- The store's list is in its canonical form and lists only pixels that exist (R40); panes and the record in hand lie
inside the store. -/
structure StoreSound (s : State) : Prop where
  canonical : Memory.wf s.store = true
  pixels : ∀ c ∈ s.store, c.1 < 1280 * 1536
  panes : PanesSound s
  job : ∀ job, s.engine.job = some job → job.inStore

/-! ## Link port and receive queue -/

/-- ABSENT goes with a debounced presence of OPEN; a finished reply or a pending NOTICE exists only in UP or QUIET
(R3, R4, R20, R21, R173). -/
structure LinkSound (s : State) : Prop where
  presence : s.link.presence = .opened ↔ s.link.state = .absent
  replies : ∀ n < 4, (s.dec.slots.get n).isFinished = true → s.link.state.alive = true
  notice : s.status.noticePending = true → s.link.state.alive = true

/-- A frame is in assembly only with lock held and outside ABSENT, its bytes never fill the assembly buffer, and once its
header is in, the payload length is a possible one and the frame has not ended (R9, R10). -/
def AssemblySound (s : State) : Prop :=
  ∀ buffer, s.link.assembly = .assembling buffer →
    s.link.laneLock = true ∧ s.link.state ≠ .absent ∧ buffer.length < 1032 ∧
      (6 ≤ buffer.length →
        headerLength buffer ≤ 1024 ∧ headerLength buffer % 4 = 0 ∧ buffer.length < 8 + headerLength buffer)

/-- The receive queue keeps its limits, its payloads are whole words, and the flow state agrees with its contents
(R14, R15, R16). -/
structure QueueSound (s : State) : Prop where
  frames : s.rxq.frames.length ≤ 16
  bytes : occupancy s.rxq.frames ≤ 8192
  payloads : ∀ f ∈ s.rxq.frames, f.payload.length ≤ 1024 ∧ f.payload.length % 4 = 0
  go : s.rxq.flow = .go → occupancy s.rxq.frames < 6144 ∧ s.rxq.frames.length < 12
  hold : s.rxq.flow = .hold → 2048 < occupancy s.rxq.frames ∨ 4 < s.rxq.frames.length

/-! ## Frame decoder -/

/-- The decoder's state agrees with the queue: a frame in hand is there, the cursor is a word offset inside its payload, a
SYNC wait goes with a scanning panel, and SLOT_WAIT is on a whole ASK record of a CTRL frame (R22, R24, R25, R34). -/
structure DecoderSound (s : State) : Prop where
  syncWait : s.dec.state = .syncWait → s.rxq.frames ≠ [] ∧ s.panel.state.scanning = true
  cursor : ∀ c, s.dec.state.cursor? = some c →
    ∃ f rest, s.rxq.frames = f :: rest ∧ c % 4 = 0 ∧ c < f.payload.length
  slotWait : ∀ c, s.dec.state = .slotWait c →
    ∃ f r, s.atCursor = some (f, .whole r) ∧ f.kind = .ctrl ∧ isAskCode r.kind = true

/-! ## Panel and scanout -/

/-- The fields of a view lie in their ranges (R120, R121). -/
def View.inRange (v : View) : Prop :=
  v.ox ≤ 1279 ∧ v.oy ≤ 1535 ∧ v.sx ≤ 1279 ∧ v.sy ≤ 1535 ∧ v.split ≤ logicalHeight v.swap

/-- A band lies on the panel (R133). -/
def Area.inRange : Area → Prop
  | .full => True
  | .band top bottom => top ≤ bottom ∧ bottom ≤ 799

/-- What waits for a frame end waits only while the panel is scanning, a pending request fits the state, the backlight is
dark outside RUNNING, views and bands are in range, and the scan lies within a frame, at its start where nothing is scanned
(R120, R127 to R136). -/
structure PanelSound (s : State) : Prop where
  pendingView : s.scan.pendingView ≠ none → s.panel.state.scanning = true
  pendingDisplay : s.panel.pendingDisplay ≠ none → s.panel.state.scanning = true
  pendingArea : s.panel.pendingArea ≠ none → s.panel.state.scanning = true
  pendingIdle : s.panel.pendingIdle ≠ none → s.panel.state.scanning = true
  blank : ∀ n, s.panel.state = .blankFrames n → n ≤ 1
  requestStart : s.panel.request = .start → s.panel.state.isStopping = true
  requestStop : s.panel.request = .stop → s.panel.state.starting = true
  dark : s.panel.state ≠ .running → s.panel.actual = 0
  levels : s.panel.actual ≤ 255 ∧ s.panel.target ≤ 255
  active : s.scan.active.inRange
  pending : ∀ v, s.scan.pendingView = some v → v.inRange
  area : s.panel.area.inRange
  nextArea : ∀ a, s.panel.pendingArea = some a → a.inRange
  frame : s.scan.scanned < panelPositions
  noFrame : s.panel.state.scanning = false → s.scan.scanned = 0

/-- In DOZE and WAKING the panel is OFF or on its way to OFF: no START is pending, and a STARTING panel has STOP pending
(R132, R168). -/
def DozingPanel (s : State) : Prop :=
  s.power.device = .doze ∨ s.power.device = .waking →
    s.panel.state = .off ∨ (s.panel.state.isStopping = true ∧ s.panel.request = .none) ∨
      (s.panel.state.starting = true ∧ s.panel.request = .stop)

/-! ## Colour unit -/

/-- The tables' fields lie in their ranges, every shaded value is a panel value, and an entry outside the recompute set is
the one that the shade arithmetic gives for the tables as they stand (R107, R110, R114, R116, R117). -/
structure ColourSound (s : State) : Prop where
  palette : ∀ i < 256, (s.colour.palette.get i).colour.red ≤ 1023 ∧ (s.colour.palette.get i).colour.green ≤ 1023 ∧
    (s.colour.palette.get i).colour.blue ≤ 1023
  gains : ∀ n < 4, (s.colour.sets.get n).gain.red ≤ 511 ∧ (s.colour.sets.get n).gain.green ≤ 511 ∧
    (s.colour.sets.get n).gain.blue ≤ 511
  offsets : ∀ n < 4, (-512 ≤ (s.colour.sets.get n).offset.red ∧ (s.colour.sets.get n).offset.red ≤ 511) ∧
    (-512 ≤ (s.colour.sets.get n).offset.green ∧ (s.colour.sets.get n).offset.green ≤ 511) ∧
    (-512 ≤ (s.colour.sets.get n).offset.blue ∧ (s.colour.sets.get n).offset.blue ≤ 511)
  shaded : ∀ k < 1024, (s.colour.shaded.get k).red ≤ 63 ∧ (s.colour.shaded.get k).green ≤ 63 ∧
    (s.colour.shaded.get k).blue ≤ 63
  current : ∀ k < 1024, s.colour.recompute.get k = false →
    s.colour.shaded.get k = shadedValues (s.colour.palette.get (k % 256)) (s.colour.sets.get (k / 256))

/-! ## Keyboard -/

/-- The key queue and the held set keep their limits; a held key has an accepted state of pressed, stands in the set once,
and never has the action IGNORE; debounce stays in its range (R139, R140, R144, R145, R150). -/
structure KeysSound (s : State) : Prop where
  events : s.keyq.events.length ≤ 32
  held : s.keys.held.length ≤ 10
  once : (s.keys.held.map HeldKey.position).Nodup
  pressed : ∀ h ∈ s.keys.held, h.position < 128 ∧ s.keys.accepted.get h.position = true ∧ h.action ≠ .ignore
  debounce : 2 ≤ s.keys.debounce ∧ s.keys.debounce ≤ 15
  counters : ∀ p < 128, s.keys.counters.get p ≤ 15

/-! ## Status unit -/

/-- Every counter lies in 0 to 65535 (R177). -/
def CountersSound (s : State) : Prop := ∀ i < 15, s.status.counters.get i ≤ 65535

/-! ## How the blocks agree -/

/-- The decoder, the engine's holder, the digest unit's work and the device power state agree: each kind of work is under
way only where the rules let it begin and while nothing it excludes goes on (R23, R72 to R75, R94, R101, R103, R168,
R170). -/
structure WorkSound (s : State) : Prop where
  serving : s.digest.work = .serving ↔ s.digest.request.isSome = true
  doze : s.power.device = .doze → s.engine.holder = .free ∧ s.digest.work = .idle
  away : s.power.device = .doze ∨ s.power.device = .waking →
    s.dec.state = .idle ∧ (s.engine.holder = .free ∨ s.engine.holder = .retention) ∧ s.digest.request = none
  pass : ∀ n, s.digest.work = .pass n →
    s.power.device = .entering ∧ s.dec.state = .idle ∧ s.rxq.frames = [] ∧ s.engine.holder = .free ∧ n < 16
  check : ∀ n lost, s.digest.work = .check n lost →
    s.power.device = .waking ∧ s.power.oscillator = none ∧ s.engine.holder = .free ∧ n < 16 ∧ ∀ m ∈ lost, m < 16
  clearing : ∀ lost, s.digest.work = .clearing lost →
    s.power.device = .waking ∧ s.power.oscillator = none ∧ s.engine.holder = .retention ∧ lost ≠ [] ∧
      ∀ m ∈ lost, m < 16
  retention : s.engine.holder = .retention → (∃ lost, s.digest.work = .clearing lost) ∧ s.engine.job.isSome = true
  oscillator : s.power.oscillator.isSome = true →
    s.power.device = .waking ∧ s.digest.work = .idle ∧ s.engine.holder = .free
  waking : s.power.device = .waking → s.power.oscillator.isSome = true ∨ s.digest.work ≠ .idle
  banner : (s.engine.holder = .banner ↔ s.power.bannerCursor.isSome = true) ∧
    (s.engine.holder = .banner → s.dec.state = .idle)
  decoder : s.engine.holder = .decoder →
    s.engine.job.isSome = true ∧
      ∃ f r, s.record? = some (f, r) ∧ f.kind = .draw ∧ isDrawCode r.kind = true
  clearPass : s.engine.holder = .clearPass → s.dec.state = .idle
  job : s.engine.job.isSome = true → s.engine.holder ≠ .free ∧ s.engine.holder ≠ .clearPass
  held : s.resetLine = true →
    s.dec.state = .idle ∧ s.engine.holder = .free ∧ s.digest.work = .idle ∧ s.power.device = .active

/-- The clear pass is under way only while it holds the engine, with at least its last pixel still to be written; the pixels
it has written hold index 0 (R44, R72, R76). -/
structure ClearSound (s : State) : Prop where
  bound : s.engine.cleared < storePixels
  away : s.engine.holder ≠ .clearPass → s.engine.cleared = 0
  blank : s.engine.holder = .clearPass → ∀ c ∈ s.store, s.engine.cleared ≤ c.1

/-- The digest unit and the pane table agree: PENDING is being in the pending set, RUNNING is being the running pane, both
only of valid panes in the request's mask; the unit runs a pane exactly while a request is outstanding, and the only slot
RESERVED is that request's (R33, R94 to R99). -/
structure DigestSound (s : State) : Prop where
  pending : ∀ n < 16, s.digest.pendingSet.get n = true ↔ (s.panes.get n).digest = .pending
  running : ∀ n < 16, s.digest.running = some n ↔ (s.panes.get n).digest = .running
  runningPane : ∀ n, s.digest.running = some n → n < 16
  valid : ∀ n < 16, (s.panes.get n).digest.inPreparation = true → (s.panes.get n).valid = true
  atWork : s.digest.request.isSome = s.digest.running.isSome
  goesOn : s.digest.running = none → ∀ n < 16, s.digest.pendingSet.get n = false
  mask : ∀ q, s.digest.request = some q → q.slot < 4 ∧ (∃ k t, s.dec.slots.get q.slot = .reserved k t) ∧
    ∀ n < 16, (s.panes.get n).digest.inPreparation = true → q.mask.getLsbD n = true
  slot : ∀ m < 4, (∃ k t, s.dec.slots.get m = .reserved k t) → ∃ q, s.digest.request = some q ∧ q.slot = m

end Sys2Proof.Machine
end

