-- ==== Sys2Proof/Certificates/Slice0/Obligations.lean ====
section
/-! DEFINITION. The statements for the provers, one definition of type Prop each, and the words they are said in. A
statement about a record names the record by its bytes (the forms of spec/12_formats.md), and says of the next state all
that changes: it is written as the state before with new values in the parts that change. -/

namespace Sys2Proof.Statements

open Sys2Proof.Machine

/-! ## Records, by their bytes (R25, R180, R181) -/

/-- The reset line is released, the decoder is WALKING, and the whole record `r` of the frame in hand `f` stands at its
cursor (R22, R25). -/
def AtRecord (s : State) (f : RxFrame) (r : Record) : Prop :=
  s.resetLine = false ∧
    ∃ c rest, s.dec.state = .walking c ∧ s.rxq.frames = f :: rest ∧ readRecord (f.payload.drop c) = some (.whole r)

/-- Byte `b` of word `w` of a record's body. -/
def byteAt (r : Record) (w b : Nat) : Nat := (byteOf (wordAt r.body w) b).toNat

/-- The 16-bit field in bytes 2h and 2h + 1 of word `w` of a record's body. -/
def halfAt (r : Record) (w h : Nat) : Nat := (halfOf (wordAt r.body w) h).toNat

/-- The body of a control or ASK record has the length its kind requires (spec/12_formats.md, Control record bodies). -/
def lengthMatches (r : Record) : Bool :=
  match r.kind.toNat with
  | 0x20 => decide (r.body.length = 4)
  | 0x21 => decide (r.body.length = 4)
  | 0x22 => decide (1 ≤ r.body.length) && decide (r.body.length = 1 + 2 * byteAt r 0 1)
  | 0x23 => decide (r.body.length = 4)
  | 0x24 => decide (1 ≤ r.body.length) && decide (r.body.length = 1 + byteAt r 0 2)
  | 0x25 => decide (1 ≤ r.body.length)
  | 0x26 => decide (r.body.length = 1)
  | 0x27 => decide (r.body.length = 4)
  | 0x28 => decide (r.body.length = 2)
  | 0x29 => decide (r.body.length = 1)
  | 0x2A => decide (r.body.length = 1)
  | 0x2B => decide (r.body.length = 1)
  | 0x2C => decide (r.body.length = 1)
  | 0x2D => decide (r.body.length = 1)
  | 0x2E => decide (r.body.length = 1)
  | 0x38 => decide (r.body.length = 1)
  | 0x39 => decide (r.body.length = 1)
  | 0x3A => decide (r.body.length = 2)
  | 0x3B => decide (r.body.length = 1)
  | _ => decide (r.body.length = 0)

/-- The rectangle of a LOAD_PANE fits (R47). -/
def rectangleInStore (r : Record) : Bool :=
  decide (halfAt r 1 0 ≤ 1279) && decide (halfAt r 1 1 ≤ 1535) && decide (1 ≤ halfAt r 2 0) && decide (1 ≤ halfAt r 2 1) &&
    decide (halfAt r 1 0 + halfAt r 2 0 ≤ 1280) && decide (halfAt r 1 1 + halfAt r 2 1 ≤ 1536)

/-- The greatest entry number of a table of ASK_TABLE (R178). -/
def lastEntry : Nat → Nat
  | 0 => 31
  | 1 => 15
  | 2 => 255
  | 3 => 3
  | _ => 127

/-- Every field of a control or ASK record lies within its range (R8, R47, R55, R58, R108, R111, R121, R133, R140, R143,
R157, R158, R159, R175, R178). -/
def fieldsInRange (r : Record) : Bool :=
  match r.kind.toNat with
  | 0x20 => decide (byteAt r 0 0 ≤ 31) && decide (byteAt r 0 3 ≤ 1) && decide (byteAt r 1 0 ≤ 3) && decide (byteAt r 1 1 ≤ 1)
  | 0x21 =>
    decide (byteAt r 0 0 ≤ 15) &&
      ((decide (byteAt r 0 1 = 0) && decide (byteAt r 0 0 ≠ 0)) ||
        (decide (byteAt r 0 1 = 1) && decide (byteAt r 0 2 ≤ 1) && decide (byteAt r 0 3 ≤ 3) &&
          (decide (byteAt r 0 0 = 0) || rectangleInStore r)))
  | 0x22 =>
    decide (byteAt r 0 0 + byteAt r 0 1 ≤ 256) &&
      (List.range (byteAt r 0 1)).all (fun k => decide (byteAt r (2 + 2 * k) 2 ≤ 1))
  | 0x23 => decide (byteAt r 0 0 ≤ 3)
  | 0x24 =>
    decide (byteAt r 0 0 ≤ 1) && decide (byteAt r 0 1 + byteAt r 0 2 ≤ 128) &&
      (List.range (byteAt r 0 2)).all (fun k =>
        decide (byteAt r (1 + k) 1 ≤ 3) && (decide (byteAt r (1 + k) 1 ≠ 2) || decide (byteAt r (1 + k) 2 ≤ 6)))
  | 0x25 => decide (byteAt r 0 0 + (r.body.length - 1) ≤ 256)
  | 0x26 => decide (halfAt r 0 0 ≤ 1024) && decide (halfAt r 0 0 % 4 = 0)
  | 0x27 =>
    decide (halfAt r 0 0 ≤ 1279) && decide (halfAt r 0 1 ≤ 1535) && decide (halfAt r 2 0 ≤ 1279) &&
      decide (halfAt r 2 1 ≤ 1535) && decide (byteAt r 3 0 ≤ 1) && decide (byteAt r 3 1 ≤ 1) && decide (byteAt r 3 2 ≤ 1) &&
      decide (halfAt r 1 0 ≤ if byteAt r 3 0 = 1 then 1280 else 800)
  | 0x28 =>
    decide (byteAt r 0 0 ≤ 7) &&
      (decide (byteAt r 0 0 ≠ 3) || (decide (halfAt r 1 1 ≤ 799) && decide (halfAt r 1 0 ≤ halfAt r 1 1)))
  | 0x2B => decide (byteAt r 0 0 ≤ 3)
  | 0x2C => decide (byteAt r 0 1 ≤ 3)
  | 0x2D => decide (byteAt r 0 0 ≤ 3) && decide (byteAt r 0 1 ≤ 3)
  | 0x38 => decide (byteAt r 0 0 ≤ 1)
  | 0x3A => decide (byteAt r 0 0 ≤ 39) && decide (halfAt r 0 1 ≤ 1535)
  | 0x3B =>
    decide (byteAt r 0 0 ≤ 4) && decide (byteAt r 0 2 ≤ lastEntry (byteAt r 0 0)) &&
      (decide (byteAt r 0 0 ≠ 4) || decide (byteAt r 0 1 ≤ 1))
  | _ => true

/-- The record at the cursor is a control or ASK record of kind code `code`, in a CTRL frame, of the right length and with
every field in range. -/
def Accepted (s : State) (f : RxFrame) (r : Record) (code : Byte) : Prop :=
  AtRecord s f r ∧ f.kind = .ctrl ∧ r.kind = code ∧ lengthMatches r = true ∧ fieldsInRange r = true

/-- The step of each draw kind. -/
def drawStep : DrawKind → Instr
  | .fill => .fill
  | .clear => .clear
  | .glyph => .glyph
  | .planes => .planes
  | .move => .move
  | .keymove => .keymove

/-- The state with a counter at a new value. -/
def withCounter (s : State) (c : Counter) (v : Nat) : State :=
  { s with status := { s.status with counters := s.status.counters.set c.index v } }

end Sys2Proof.Statements

open Sys2Proof Sys2Proof.Machine Sys2Proof.Statements

/-! ## The step and its queue -/

/-- A step takes the command at the front of the queue and runs it on the state with the queue's rest. -/
def Obligations.StepRunsFrontCommand : Prop :=
  ∀ (s : State) (c : Instr) (rest : List Instr), s.pending = c :: rest → step s = exec c { s with pending := rest }

/-- With no command waiting: nothing happens while the reset line is asserted; steps that the state calls for at once join
the queue, in some order, and no time passes; otherwise one millisecond passes, in which the draw engine deals with some
number of further pixels of the record in hand, or of the store in the clear pass, but not with the last, at which the work
ends, a scanning panel is sent some number of further positions of the frame under way, short of its last, every timer and the
time base advance by one, and the steps whose time has come join the queue, in some order. Which steps each of the two lists holds, by the
conditions of the rules, and which step deals with a record of each kind and each PANEL action. That the part runs on by
itself, in these orders and at this progress, is the model's choice: notes/assumptions/3.md, 4.md, 5.md, 24.md and 26.md; so
is it that FRAME_END, KEY_SCAN and the ends of untimed work stand in neither list and are left to the sender:
notes/assumptions/17.md. -/
def Obligations.EmptyQueueRunsOn : Prop :=
  (∀ s : State, s.pending = [] →
    (s.resetLine = true → step s = .next s) ∧
    (s.resetLine = false → stepsCalledFor s ≠ [] →
      ∃ cs : List Instr, cs.Perm (stepsCalledFor s) ∧ step s = .next { s with pending := cs, turn := s.turn + 1 }) ∧
    (s.resetLine = false → stepsCalledFor s = [] →
      ∃ (k m : Nat) (cs : List Instr) (u v : State),
        (s.engine.holder ≠ .clearPass → s.engine.job = none → u = s) ∧
        (s.engine.holder ≠ .clearPass → ∀ job n, s.engine.job = some job → n = min (job.todo.length - 1) k →
          u = { s.paint job (job.todo.take n) with
            engine := { s.engine with job := some { job with todo := job.todo.drop n } }
            turn := s.turn + 1 }) ∧
        (s.engine.holder = .clearPass →
          u = { s with
            store := u.store
            panes := u.panes
            digest := u.digest
            dec := { s.dec with slots := u.dec.slots }
            status := { s.status with counters := u.status.counters }
            engine := { s.engine with cleared := min (1280 * 1536 - 1) (s.engine.cleared + k) }
            turn := s.turn + 1 } ∧
          (∀ x y, x < 1280 → y < 1536 →
            u.pixel x y = if s.engine.cleared ≤ 1280 * y + x ∧
                1280 * y + x < min (1280 * 1536 - 1) (s.engine.cleared + k) then 0
              else s.pixel x y) ∧
          ((∀ n < 16, (s.panes.get n).digest = .none) → s.digest.running = none →
            u.panes = s.panes ∧ u.digest = s.digest ∧ u.dec = s.dec ∧ u.status = s.status)) ∧
        v = { u with
          scan := { u.scan with scanned :=
            if u.panel.state.scanning then min (1280 * 800 - 1) (u.scan.scanned + m) else u.scan.scanned }
          turn := if u.panel.state.scanning then u.turn + 1 else u.turn
          status := { u.status with timeBase := u.status.timeBase + 1 }
          link := { u.link with stability := u.link.stability + 1, silence := u.link.silence + 1 }
          panel := { u.panel with state :=
            (match u.panel.state with
             | .powerUp t => .powerUp (t + 1)
             | .stopping t => .stopping (t + 1)
             | other => other) }
          keys := { u.keys with sinceScan := u.keys.sinceScan + 1 }
          power := { u.power with
            oscillator := u.power.oscillator.map (· + 1)
            outage := u.power.outage.map (· + 1)
            dozeTimer := u.power.dozeTimer +
              (if u.link.state = .absent ∧ u.power.device = .active then 1 else 0) } } ∧
        cs.Perm (timedSteps v) ∧
        step s = .next { v with pending := cs, turn := v.turn + 1 })) ∧
  (∀ (s : State) (c : Instr), c ∈ timedSteps s ↔
    (c = .presenceClosed ∧ s.link.contact = .closed ∧ s.link.presence = .opened ∧ 20 ≤ s.link.stability) ∨
    (c = .presenceOpen ∧ s.link.contact = .opened ∧ s.link.presence = .closed ∧ 50 ≤ s.link.stability) ∨
    (c = .silenceTimeout ∧ s.link.state = .up ∧ s.link.silenceTimeout ≤ s.link.silence) ∨
    (c = .oscillatorWaitEnd ∧ s.power.device = .waking ∧ ∃ t, s.power.oscillator = some t ∧ 4 ≤ t) ∨
    (c = .dozeTimerExpiry ∧ s.power.device = .active ∧ s.link.state = .absent ∧ s.power.dozeDelay ≤ s.power.dozeTimer) ∨
    (c = .bannerDelayExpiry ∧ s.power.bannerPlayed = false ∧ s.power.bannerDue = false ∧
      ∃ t, s.power.outage = some t ∧ s.power.bannerDelay ≤ t) ∨
    (c = .powerUpEnd ∧ ∃ t, s.panel.state = .powerUp t ∧ 120 ≤ t) ∨
    (c = .powerDownEnd ∧ ∃ t, s.panel.state = .stopping t ∧ 20 ≤ t)) ∧
  (∀ (s : State) (c : Instr), c ∈ stepsCalledFor s ↔
    (c = .frameTake ∧ s.dec.state = .idle ∧ s.rxq.frames ≠ [] ∧ (s.power.device = .active ∨ s.power.device = .entering) ∧
      s.engine.holder ≠ .banner ∧ s.engine.holder ≠ .clearPass) ∨
    (∃ k f rest, s.dec.state = .walking k ∧ s.rxq.frames = f :: rest ∧
      ((c = .brokenRecord ∧ readRecord (f.payload.drop k) = some .broken) ∨
        ∃ r, readRecord (f.payload.drop k) = some (.whole r) ∧ c = recordCommand r ∧
          ¬ (isDrawCode r.kind = true ∧ f.kind = .draw ∧ s.engine.holder ≠ .free))) ∨
    (c = .slotGranted ∧ (∃ k, s.dec.state = .slotWait k) ∧ ∃ n < 4, s.dec.slots.get n = .free) ∨
    ((s.link.state = .up ∨ s.link.state = .quiet) ∧ s.up.transmitter = .idle ∧
      ((c = .flowSymbolSend ∧ s.up.flowPending = true) ∨
        (c = .keysFrameStart ∧ s.up.flowPending = false ∧ s.keyq.events ≠ []) ∨
        (c = .replyFrameStart ∧ s.up.flowPending = false ∧ s.keyq.events = [] ∧
          ∃ n < 4, (s.dec.slots.get n).isFinished = true) ∨
        (c = .noticeFrameStart ∧ s.up.flowPending = false ∧ s.keyq.events = [] ∧
          (∀ n < 4, (s.dec.slots.get n).isFinished = false) ∧ s.status.noticePending = true))) ∨
    (c = .bannerGrant ∧ s.power.bannerDue = true ∧ s.engine.holder = .free ∧ s.power.device = .active ∧
      s.rxq.frames = [] ∧ s.dec.state = .idle) ∨
    (c = .retentionPassStart ∧ s.power.device = .entering ∧ s.rxq.frames = [] ∧ s.dec.state = .idle ∧
      s.engine.holder = .free ∧ s.digest.work = .idle)) ∧
  (∀ r : Record,
    (∀ p ∈ [(0x10, Instr.fill), (0x11, .clear), (0x12, .glyph), (0x13, .planes), (0x14, .move), (0x15, .keymove),
        (0x20, .loadPen), (0x21, .loadPane), (0x22, .loadPalette), (0x23, .loadShade), (0x24, .loadKeymap),
        (0x25, .loadBanner), (0x26, .setBanner), (0x27, .setView), (0x29, .backlight), (0x2A, .lamps), (0x2B, .setLink),
        (0x2C, .setKeys), (0x2D, .setOutage), (0x2E, .setNotice), (0x2F, .doze), (0x30, .reset), (0x31, .clearCounts),
        (0x38, .askStatus), (0x39, .askDigest), (0x3A, .askCell), (0x3B, .askTable), (0x3C, .askId)],
      r.kind.toNat = p.1 → recordCommand r = p.2) ∧
    (r.kind = 0x28 → r.body ≠ [] →
      ∀ p ∈ [(0, Instr.panelStart), (1, .panelStop), (2, .panelFull), (3, .panelPartial), (4, .panelIdleOn),
          (5, .panelIdleOff), (6, .panelShow), (7, .panelBlank)],
        byteAt r 0 0 = p.1 → recordCommand r = p.2) ∧
    (¬ (0x10 ≤ r.kind.toNat ∧ r.kind.toNat ≤ 0x15) → ¬ (0x20 ≤ r.kind.toNat ∧ r.kind.toNat ≤ 0x31) →
      ¬ (0x38 ≤ r.kind.toNat ∧ r.kind.toNat ≤ 0x3C) → recordCommand r = .unknownRecord))

/-! ## Reset -/

/-- What a hardware reset leaves, block by block, as the rules of each block give it. -/
def Obligations.ResetLeavesTheStatedValues : Prop :=
  let s := State.reset
  (s.link.state = .absent ∧ s.link.presence = .opened ∧ s.link.laneLock = false ∧ s.link.silenceTimeout = 1000 ∧
    s.link.expected = none ∧ s.link.assembly = .waiting ∧ s.rxq.frames = [] ∧ s.rxq.flow = .go ∧
    s.up.transmitter = .idle ∧ s.up.sequence = 0 ∧ s.up.flowPending = false) ∧
  (s.dec.state = .idle ∧ (∀ n < 4, s.dec.slots.get n = .free) ∧ s.dec.lastRefusal = none) ∧
  ((s.panes.get 0).valid = true ∧ (s.panes.get 0).width = 1280 ∧ (s.panes.get 0).height = 1536 ∧
    (∀ n < 16, 1 ≤ n → (s.panes.get n).valid = false ∧ (s.panes.get n).width = 1 ∧ (s.panes.get n).height = 1) ∧
    (∀ n < 16, (s.panes.get n).left = 0 ∧ (s.panes.get n).top = 0 ∧ (s.panes.get n).access = .opened ∧
      (s.panes.get n).shadeSet = 0 ∧ (s.panes.get n).fill = 0 ∧ (s.panes.get n).digest = .none ∧
      (s.panes.get n).dozeDigest = none ∧ (s.panes.get n).lost = false)) ∧
  (s.engine.holder = .clearPass ∧ (∀ n < 32, s.engine.pens.get n =
    { fg := 15, bg := 0, opaqueBg := true, alu := .copy, stipple := 0xFFFFFFFF#32, planeMask := 0xFF#8
      keyColour := 0, keyCare := 0xFF#8, bitOrder := .msbFirst })) ∧
  (s.digest.work = .idle ∧ (∀ n < 16, s.digest.pendingSet.get n = false) ∧ s.digest.running = none ∧
    s.digest.request = none) ∧
  ((∀ i < 256, (s.colour.palette.get i).fixed = false ∧
      (s.colour.palette.get i).colour = ⟨i * 4 + i / 64, i * 4 + i / 64, i * 4 + i / 64⟩) ∧
    (∀ n < 4, (s.colour.sets.get n).gain = ⟨256, 256, 256⟩ ∧ (s.colour.sets.get n).offset = ⟨0, 0, 0⟩ ∧
      (s.colour.sets.get n).clip = false) ∧
    (∀ k < 1024, s.colour.shaded.get k = shadedValues (s.colour.palette.get (k % 256)) (s.colour.sets.get (k / 256)) ∧
      s.colour.recompute.get k = false)) ∧
  (s.scan.active = { ox := 0, oy := 0, split := 800, sx := 0, sy := 0, planeEnable := 0xFF#8
                     swap := false, mirrorX := false, mirrorY := false } ∧
    s.scan.pendingView = none ∧ s.scan.frameCounter = 0 ∧ s.scan.scanned = 0) ∧
  (s.panel.state = .off ∧ s.panel.request = .none ∧ s.panel.display = .show ∧ s.panel.area = .full ∧
    s.panel.idleMode = false ∧ s.panel.pendingDisplay = none ∧ s.panel.pendingArea = none ∧ s.panel.pendingIdle = none ∧
    s.panel.target = 0 ∧ s.panel.actual = 0) ∧
  ((∀ p < 128, s.keys.accepted.get p = false ∧ s.keys.counters.get p = 0) ∧ s.keys.debounce = 5 ∧
    (∀ l < 2, ∀ p < 128, s.keys.entry l p = { code := BitVec.ofNat 8 p, action := .key }) ∧ s.keys.held = [] ∧
    (∀ n < 7, s.keys.lamps.get n = false) ∧ s.keyq.events = [] ∧ s.keyq.overrunPending = false ∧
    s.keyq.snapshotPending = false ∧ s.keyq.holdLimit = some 2000) ∧
  (s.power.device = .active ∧ s.power.remembered = false ∧ s.power.outage = none ∧ s.power.bannerPlayed = false ∧
    s.power.bannerDelay = 500 ∧ s.power.dozeDelay = 60000 ∧ s.power.dozeTimer = 0 ∧
    (∀ n < 256, s.power.bannerStore.get n = 0) ∧ s.power.bannerLength = 0) ∧
  (s.status.summary = 0 ∧ s.status.noticeMask = 0 ∧ s.status.noticePending = false ∧ s.status.timeBase = 0 ∧
    ∀ n < 15, s.status.counters.get n = 0)

/-- RESET_ASSERT gives every block its hardware-reset values, whatever it was doing; the pixels written so far, those of
a clear pass that it cuts among them, and the waiting commands stay. The model's choices in it: the raw contact stays as it
was (notes/assumptions/1.md) and the engine's holder is FREE while the line is asserted (13.md). While the line is
asserted a step has no effect, but for RESET_ASSERT, RESET_RELEASE and PRESENCE_CONTACT_CHANGE, of which this statement
says nothing there; that is the model's reading (6.md). RESET_RELEASE gives the engine to the clear pass, which begins from
the first pixel. CLEAR_PASS_END leaves index 0 in every pixel and the engine FREE, and with every digest state NONE, as
after a hardware reset, nothing else is changed. -/
def Obligations.ResetLineAndClearPass : Prop :=
  ((∀ s : State, exec .resetAssert s = .next
     { State.reset with
       resetLine := true
       store := s.store
       link := { State.reset.link with contact := s.link.contact }
       engine := { State.reset.engine with holder := .free }
       turn := s.turn
       pending := s.pending }) ∧
   (∀ (s : State) (c : Instr), s.resetLine = true → c ≠ .resetAssert → c ≠ .resetRelease →
     (∀ v, c ≠ .presenceContactChange v) → c.wellFormed = true → exec c s = .next s)) ∧
  ((∀ s : State, s.resetLine = true → exec .resetRelease s = .next
     { s with
       resetLine := false
       link := { s.link with stability := 0 }
       engine := { s.engine with holder := .clearPass, cleared := 0 } }) ∧
   (∀ s : State, s.resetLine = false → s.engine.holder = .clearPass →
     (∀ n < 16, (s.panes.get n).digest = .none) → s.digest.running = none →
     ∃ t, exec .clearPassEnd s = .next t ∧ (∀ x y, x < 1280 → y < 1536 → t.pixel x y = 0) ∧
       t = { s with store := t.store, engine := { s.engine with holder := .free, job := none, cleared := 0 } }))

/-! ## The dock link -/

/-- A contact open for 50 ms while the debounced presence is CLOSED makes it OPEN, and the link enters ABSENT: the
expected sequence becomes unknown, a frame in assembly is truncated and counted, the finished replies are emptied
and counted, a pending NOTICE is dropped, the doze timer is set to 0, and an outage begins if the link was UP. The
receive queue, the reserved slots, the summary flags, the key queue and the transmitter are left as they are. A gain
of lock changes no link state. A loss of lock truncates a frame in assembly; in UP or QUIET with the presence CLOSED
it takes the link to ACQUIRING, where the expected sequence is kept, finished replies are emptied and counted, a
pending NOTICE is dropped, and an outage begins if the link was UP. Otherwise the link state stays. -/
def Obligations.LinkLosses : Prop :=
  (∀ s : State, s.resetLine = false → s.link.contact = .opened → s.link.presence = .closed → 50 ≤ s.link.stability →
     ∃ t, exec .presenceOpen s = .next t ∧
       t = { s with
         link := { s.link with presence := .opened, state := .absent, expected := none, assembly := .waiting }
         dec := { s.dec with slots := t.dec.slots }
         status := { s.status with counters := t.status.counters, noticePending := false }
         power :=
           if s.link.state = .up then
             { s.power with outage := some 0, bannerPlayed := false, bannerDue := false, dozeTimer := 0 }
           else { s.power with dozeTimer := 0 } } ∧
       (∀ n < 4, t.dec.slots.get n = if (s.dec.slots.get n).isFinished then .free else s.dec.slots.get n) ∧
       t.counter .truncated =
         (if s.link.assembly = .waiting then s.counter .truncated else min 65535 (s.counter .truncated + 1)) ∧
       t.counter .repliesLost =
         min 65535 (s.counter .repliesLost + ((List.range 4).filter (fun n => (s.dec.slots.get n).isFinished)).length) ∧
       ∀ c : Counter, c ≠ .truncated → c ≠ .repliesLost → t.counter c = s.counter c) ∧
  ((∀ s : State, s.resetLine = false → exec .laneLockGained s = .next { s with link := { s.link with laneLock := true } }) ∧
   (∀ s : State, s.resetLine = false → s.link.laneLock = true →
     ∃ t, exec .laneLockLost s = .next t ∧
       (s.link.state.alive = true ∧ s.link.presence = .closed →
         t = { s with
           link := { s.link with laneLock := false, state := .acquiring, assembly := .waiting }
           dec := { s.dec with slots := t.dec.slots }
           status := { s.status with counters := t.status.counters, noticePending := false }
           power :=
             if s.link.state = .up then { s.power with outage := some 0, bannerPlayed := false, bannerDue := false }
             else s.power } ∧
         (∀ n < 4, t.dec.slots.get n = if (s.dec.slots.get n).isFinished then .free else s.dec.slots.get n) ∧
         t.counter .repliesLost =
           min 65535 (s.counter .repliesLost + ((List.range 4).filter (fun n => (s.dec.slots.get n).isFinished)).length)) ∧
       (¬ (s.link.state.alive = true ∧ s.link.presence = .closed) →
         t = { s with
           link := { s.link with laneLock := false, assembly := .waiting }
           status := { s.status with counters := t.status.counters } } ∧
         t.counter .repliesLost = s.counter .repliesLost) ∧
       t.counter .truncated =
         (if s.link.assembly = .waiting then s.counter .truncated else min 65535 (s.counter .truncated + 1)) ∧
       ∀ c : Counter, c ≠ .truncated → c ≠ .repliesLost → t.counter c = s.counter c))

/-- Frame assembly. A START begins a frame with an empty buffer, and truncates and counts a frame in progress. A data
symbol in WAITING is disregarded. In ASSEMBLING it is stored; with the header in, a payload length above 1024 or not a
multiple of 4 discards the frame, counted BAD_FRAME; and while bytes are still to come nothing else changes. -/
def Obligations.AssemblyGathersBytes : Prop :=
  ∀ s : State, s.resetLine = false → s.link.laneLock = true → s.link.state ≠ .absent →
    (s.link.assembly = .waiting →
      exec .startSymbol s = .next { s with link := { s.link with assembly := .assembling [] } } ∧
      ∀ b : Byte, exec (.dataSymbol b) s = .next s) ∧
    (∀ buffer : List Byte, s.link.assembly = .assembling buffer →
      exec .startSymbol s = .next
        { withCounter s .truncated (min 65535 (s.counter .truncated + 1)) with
          link := { s.link with assembly := .assembling [] } } ∧
      ∀ b : Byte,
        (buffer.length < 5 ∨
            (headerLength (buffer ++ [b]) ≤ 1024 ∧ headerLength (buffer ++ [b]) % 4 = 0 ∧
              buffer.length + 1 < 8 + headerLength (buffer ++ [b])) →
          exec (.dataSymbol b) s = .next { s with link := { s.link with assembly := .assembling (buffer ++ [b]) } }) ∧
        (5 ≤ buffer.length →
          1024 < headerLength (buffer ++ [b]) ∨ headerLength (buffer ++ [b]) % 4 ≠ 0 →
          exec (.dataSymbol b) s = .next
            { withCounter s .badFrame (min 65535 (s.counter .badFrame + 1)) with
              link := { s.link with assembly := .waiting } }))

/-- The last CRC byte ends the frame. With a bad CRC the frame is discarded and counted BAD_FRAME, and neither the
silence timer, the link state nor the expected sequence moves. With a good CRC the silence timer restarts, in
ACQUIRING and QUIET with a resume, and the frame goes to classification with its kind, flags, sequence number and
payload. A resume: the link is UP and the silence timer restarts, RESUMED is set, a flow symbol becomes pending, the
outage and a play that is due end, the stale events at the head of the key queue are removed and counted, with a
snapshot pending if any was, and a NOTICE is pending if a flag then set has its enable bit at 1. -/
def Obligations.CrcCheckAndResume : Prop :=
  (∀ (s : State) (stored header payload : List Byte) (b : Byte) (crc : BitVec 16),
     s.resetLine = false → s.link.laneLock = true → s.link.state ≠ .absent → s.link.assembly = .assembling stored →
     header.length = 6 → payload.length ≤ 1024 → payload.length % 4 = 0 →
     halfOfBytes (header.getD 4 0) (header.getD 5 0) = BitVec.ofNat 16 payload.length →
     stored ++ [b] = header ++ payload ++ bytesOfHalf crc →
     (crc ≠ crc16 (header ++ payload) →
       exec (.dataSymbol b) s = .next
         { withCounter s .badFrame (min 65535 (s.counter .badFrame + 1)) with link := { s.link with assembly := .waiting } }) ∧
     (crc = crc16 (header ++ payload) → s.link.state = .up →
       exec (.dataSymbol b) s = .next
         (State.classify { s with link := { s.link with assembly := .waiting, silence := 0 } }
           (header.getD 0 0) (header.getD 1 0) (header.getD 2 0) payload)) ∧
     (crc = crc16 (header ++ payload) → s.link.state ≠ .up →
       exec (.dataSymbol b) s = .next
         ((State.resume { s with link := { s.link with assembly := .waiting } }).classify
           (header.getD 0 0) (header.getD 1 0) (header.getD 2 0) payload))) ∧
  (∀ s : State, ∃ (stale young : List KeyEvent) (t : State), t = s.resume ∧
     s.keyq.events = stale ++ young ∧
     (∀ e ∈ stale, ∃ limit, s.keyq.holdLimit = some limit ∧ limit ≤ (s.status.timeBase - e.stamp).toNat) ∧
     (∀ e, young.head? = some e → ∀ limit, s.keyq.holdLimit = some limit → (s.status.timeBase - e.stamp).toNat < limit) ∧
     t = { s with
       link := { s.link with state := .up, silence := 0 }
       up := { s.up with flowPending := true }
       keyq := { s.keyq with events := young, snapshotPending := s.keyq.snapshotPending || !stale.isEmpty }
       power := { s.power with outage := none, bannerDue := false }
       status := { s.status with
         summary := s.status.summary ||| 0x04#8
         noticePending := s.status.noticePending || decide ((s.status.summary ||| 0x04#8) &&& s.status.noticeMask ≠ 0)
         counters := s.status.counters.set 11 (min 65535 (s.counter .staleKeys + stale.length)) } })

/-- Sequence classification of a good frame, by d = (seq − expected) mod 256; what a kept frame of each kind then meets.
Admission. A frame for which there is no room is discarded, counted OVERFLOW, and GAP is set. Otherwise it joins the
tail of the queue, GO becomes HOLD at 6,144 bytes or 12 frames with a flow symbol pending, and the device is woken
in DOZE, its doze entry aborted in ENTERING, and left alone in WAKING and ACTIVE. -/
def Obligations.ClassificationAndAdmission : Prop :=
  (∀ (s : State) (kind flags sequence : Byte) (payload : List Byte),
     (s.link.expected = none → s.classify kind flags sequence payload = s.keepFrame kind flags sequence payload) ∧
     (∀ expected d, s.link.expected = some expected → d = (sequence.toNat + 256 - expected.toNat) % 256 →
       (d = 0 → s.classify kind flags sequence payload = s.keepFrame kind flags sequence payload) ∧
       (1 ≤ d → d ≤ 127 → s.classify kind flags sequence payload =
         ((s.count .gapFrames d).setFlag .gap).keepFrame kind flags sequence payload) ∧
       (128 ≤ d → s.classify kind flags sequence payload = (s.count .lateFrames).setFlag .gap)) ∧
     (∀ s1 : State, s1 = { s with link := { s.link with expected := some (sequence + 1) } } →
       (kind = 0x01#8 → s.keepFrame kind flags sequence payload = s1.admission ⟨.draw, flags, sequence, payload⟩) ∧
       (kind = 0x02#8 → s.keepFrame kind flags sequence payload = s1.admission ⟨.ctrl, flags, sequence, payload⟩) ∧
       (kind ≠ 0x01#8 → kind ≠ 0x02#8 → s.keepFrame kind flags sequence payload = s1.count .unknown))) ∧
  (∀ (s : State) (f : RxFrame),
     (8192 < occupancy s.rxq.frames + (f.payload.length + 8) ∨ 16 ≤ s.rxq.frames.length →
       s.admission f = (s.count .overflow).setFlag .gap) ∧
     (occupancy s.rxq.frames + (f.payload.length + 8) ≤ 8192 → s.rxq.frames.length < 16 →
       ∃ q : State,
         q = (if s.rxq.flow = .go ∧
               (6144 ≤ occupancy s.rxq.frames + (f.payload.length + 8) ∨ 12 ≤ s.rxq.frames.length + 1) then
             { s with
               rxq := { frames := s.rxq.frames ++ [f], flow := .hold }
               up := { s.up with flowPending := true } }
           else { s with rxq := { s.rxq with frames := s.rxq.frames ++ [f] } }) ∧
         (s.power.device = .active ∨ s.power.device = .waking → s.admission f = q) ∧
         (s.power.device = .doze →
           s.admission f = { q with power := { q.power with device := .waking, oscillator := some 0 } }) ∧
         (s.power.device = .entering → s.admission f = q.abortDoze)))

/-- A change of the raw contact restarts the stability timer and changes nothing else. A contact closed for 20 ms while
the debounced presence is OPEN makes it CLOSED: ABSENT goes to ACQUIRING, and in DOZE the device enters WAKING. The
silence timeout in UP takes the link to QUIET and begins an outage; nothing is discarded. SET_LINK sets the timeout
at once, for the running timer too. -/
def Obligations.PresenceClosesAndSilence : Prop :=
  ((∀ (s : State) (v : Contact), s.link.contact ≠ v →
     exec (.presenceContactChange v) s = .next { s with link := { s.link with contact := v, stability := 0 } }) ∧
   (∀ s : State, s.resetLine = false → s.link.contact = .closed → s.link.presence = .opened → 20 ≤ s.link.stability →
     exec .presenceClosed s = .next
       { s with
         link := { s.link with
           presence := .closed
           state := if s.link.state = .absent then .acquiring else s.link.state }
         power := if s.power.device = .doze then { s.power with device := .waking, oscillator := some 0 } else s.power })) ∧
  ((∀ s : State, s.resetLine = false → s.link.state = .up → s.link.silenceTimeout ≤ s.link.silence →
     exec .silenceTimeout s = .next
       { s with
         link := { s.link with state := .quiet }
         power := { s.power with outage := some 0, bannerPlayed := false, bannerDue := false } }) ∧
   (∀ (s : State) (f : RxFrame) (r : Record) (ms : Nat), Accepted s f r 0x2B →
     [50, 200, 1000, 4000][byteAt r 0 0]? = some ms →
     (s.link.state = .up → ms ≤ s.link.silence →
       exec .setLink s = .next (State.advance
         { s with
           link := { s.link with state := .quiet, silenceTimeout := ms }
           power := { s.power with outage := some 0, bannerPlayed := false, bannerDue := false } } r)) ∧
     (¬ (s.link.state = .up ∧ ms ≤ s.link.silence) →
       exec .setLink s = .next (State.advance { s with link := { s.link with silenceTimeout := ms } } r))))

/-! ## The frame decoder -/

/-- FRAME_TAKE. The idle decoder takes the oldest frame in ACTIVE or ENTERING with no banner play and no clear pass: a SYNC
frame waits while the panel is scanning; any other is walked from offset 0, an empty one being finished at once. A wait is
released by a frame end or by the panel's stopping, and the frame is then walked in the same way. -/
def Obligations.FrameTakeAndSyncWait : Prop :=
  (∀ (s : State) (f : RxFrame) (rest : List RxFrame), s.resetLine = false → s.dec.state = .idle →
    s.rxq.frames = f :: rest → (s.power.device = .active ∨ s.power.device = .entering) → s.engine.holder ≠ .banner →
    s.engine.holder ≠ .clearPass →
    (f.flags.getLsbD 0 = true → s.panel.state.scanning = true →
      exec .frameTake s = .next { s with dec := { s.dec with state := .syncWait } }) ∧
    (f.flags.getLsbD 0 = false ∨ s.panel.state.scanning = false → f.payload ≠ [] →
      exec .frameTake s = .next { s with dec := { s.dec with state := .walking 0 } }) ∧
    (f.flags.getLsbD 0 = false ∨ s.panel.state.scanning = false → f.payload = [] →
      exec .frameTake s = .next s.finishFrame)) ∧
  (∀ (s : State) (f : RxFrame) (rest : List RxFrame), s.dec.state = .syncWait → s.rxq.frames = f :: rest →
    (f.payload ≠ [] → s.releaseSync = { s with dec := { s.dec with state := .walking 0 } }) ∧
    (f.payload = [] → s.releaseSync = s.finishFrame)) ∧
  (∀ s : State, s.dec.state ≠ .syncWait → s.releaseSync = s)

/-- A record of unknown kind is skipped: UNKNOWN is counted and the walk goes on; nothing is refused, no slot is taken. -/
def Obligations.UnknownRecordIsSkipped : Prop :=
  ∀ (s : State) (f : RxFrame) (r : Record), AtRecord s f r →
    ¬ (0x10 ≤ r.kind.toNat ∧ r.kind.toNat ≤ 0x15) → ¬ (0x20 ≤ r.kind.toNat ∧ r.kind.toNat ≤ 0x31) →
    ¬ (0x38 ≤ r.kind.toNat ∧ r.kind.toNat ≤ 0x3C) →
    exec .unknownRecord s = .next ((withCounter s .unknown (min 65535 (s.counter .unknown + 1))).advance r)

/-- The cursor moves past a completed record by its extent, 4 bytes and 4 for each body word. Short of the payload's end
the walk goes on there; at the end the decoder is IDLE, the frame leaves the receive queue, and HOLD becomes GO,
with a flow symbol pending, where at most 2,048 bytes and 4 frames are left. A body that runs past the payload's end
breaks the frame: MALFORMED is counted once and the frame is finished, with the rest of it discarded; nothing else
changes. -/
def Obligations.WalkAdvancesOrBreaks : Prop :=
  (∀ (s : State) (f : RxFrame) (rest : List RxFrame) (r : Record) (c : Nat),
     s.dec.state.cursor? = some c → s.rxq.frames = f :: rest →
     (c + 4 + 4 * r.body.length < f.payload.length →
       s.advance r = { s with dec := { s.dec with state := .walking (c + 4 + 4 * r.body.length) } }) ∧
     (f.payload.length ≤ c + 4 + 4 * r.body.length →
       s.advance r = s.finishFrame ∧
       s.finishFrame =
         (if s.rxq.flow = .hold ∧ (rest.map (fun g => g.payload.length + 8)).sum ≤ 2048 ∧ rest.length ≤ 4 then
           { s with
             dec := { s.dec with state := .idle }
             rxq := { frames := rest, flow := .go }
             up := { s.up with flowPending := true } }
         else
           { s with dec := { s.dec with state := .idle }, rxq := { s.rxq with frames := rest } }))) ∧
  (∀ (s : State) (f : RxFrame) (rest : List RxFrame) (c : Nat) (kind length tag par : Byte) (left : List Byte),
     s.resetLine = false → s.dec.state = .walking c → s.rxq.frames = f :: rest →
     f.payload.drop c = kind :: length :: tag :: par :: left → left.length < 4 * length.toNat →
     exec .brokenRecord s = .next (withCounter s .malformed (min 65535 (s.counter .malformed + 1))).finishFrame)

/-- A draw record in a CTRL frame, and a control or ASK record in a DRAW frame, is refused with MISPLACED by the step that
deals with its kind, and the walk goes on past it; it reserves no slot. A control record, other than an ASK record, whose
body has not the length of its kind is refused with LENGTH; one of the right length with a field out of range is refused
with RANGE. It has no effect but the refusal, and the walk goes on. That a PANEL record which names no action is dealt with
by PANEL_START is the model's choice: notes/assumptions/8.md. -/
def Obligations.RecordsAreRefused : Prop :=
  ((∀ (s : State) (f : RxFrame) (r : Record) (k : DrawKind), AtRecord s f r → f.kind = .ctrl → r.kind = k.code →
     exec (drawStep k) s = .next ((s.refuse r.kind r.tag (some f.sequence) .misplaced).advance r)) ∧
   (∀ (s : State) (f : RxFrame) (r : Record), AtRecord s f r → f.kind = .draw →
     (0x20 ≤ r.kind.toNat ∧ r.kind.toNat ≤ 0x31) ∨ (0x38 ≤ r.kind.toNat ∧ r.kind.toNat ≤ 0x3C) →
     exec (recordCommand r) s = .next ((s.refuse r.kind r.tag (some f.sequence) .misplaced).advance r))) ∧
  (∀ (s : State) (f : RxFrame) (r : Record), AtRecord s f r → f.kind = .ctrl →
     0x20 ≤ r.kind.toNat → r.kind.toNat ≤ 0x31 →
     (lengthMatches r = false →
       exec (recordCommand r) s = .next ((s.refuse r.kind r.tag (some f.sequence) .length).advance r)) ∧
     (lengthMatches r = true → fieldsInRange r = false →
       exec (recordCommand r) s = .next ((s.refuse r.kind r.tag (some f.sequence) .range).advance r)))

/-! ## Control records -/

/-- An accepted LOAD_PANE writes the entry: with valid 1 all fields but, for pane 0, the rectangle; with valid 0 only valid.
Lost is cleared and the digest state becomes NONE. A pane that was running is given up and the digest unit goes on; a
pending pane leaves the pending set and the outstanding request is examined. -/
def Obligations.LoadPaneWritesEntry : Prop :=
  ∀ (s : State) (f : RxFrame) (r : Record) (n : Nat), Accepted s f r 0x21 → n = byteAt r 0 0 →
    ∃ (p : Pane) (u : State),
      (byteAt r 0 1 = 0 → p = { s.panes.get n with valid := false, digest := .none, lost := false }) ∧
      (byteAt r 0 1 = 1 →
        p = { s.panes.get n with
          valid := true
          left := if n = 0 then (s.panes.get n).left else halfAt r 1 0
          top := if n = 0 then (s.panes.get n).top else halfAt r 1 1
          width := if n = 0 then (s.panes.get n).width else halfAt r 2 0
          height := if n = 0 then (s.panes.get n).height else halfAt r 2 1
          access := if byteAt r 0 2 = 1 then .shut else .opened
          shadeSet := byteAt r 0 3
          fill := byteOf (wordAt r.body 3) 0
          digest := .none
          lost := false }) ∧
      u = { s with panes := s.panes.set n p } ∧
      exec .loadPane s = .next (State.advance
        (if s.digest.running = some n then State.digestGoOn { u with digest := { u.digest with running := none } }
         else if s.digest.pendingSet.get n = true then
           State.examineRequest { u with digest := { u.digest with pendingSet := u.digest.pendingSet.set n false } }
         else u) r)

/-- An accepted LOAD_PALETTE writes its run, each channel above 1023 as 1023, and adds the run's pairs in all four sets
to the recompute set. An accepted LOAD_SHADE writes the six fields of one set, clamped each on its own, leaves its
clip flag and the other sets, and adds the set's 256 pairs to the recompute set. -/
def Obligations.ColourLoadsWrite : Prop :=
  (∀ (s : State) (f : RxFrame) (r : Record) (start count : Nat), Accepted s f r 0x22 → start = byteAt r 0 0 →
     count = byteAt r 0 1 →
     ∃ (palette : Table PaletteEntry 256) (recompute : Table Bool 1024),
       exec .loadPalette s = .next (State.advance
         { s with colour := { s.colour with palette := palette, recompute := recompute } } r) ∧
       (∀ i < 256, ¬ (start ≤ i ∧ i < start + count) → palette.get i = s.colour.palette.get i) ∧
       (∀ k < count, palette.get (start + k) =
         { colour := ⟨min 1023 (halfAt r (1 + 2 * k) 0), min 1023 (halfAt r (1 + 2 * k) 1), min 1023 (halfAt r (2 + 2 * k) 0)⟩
           fixed := decide (byteAt r (2 + 2 * k) 2 = 1) }) ∧
       (∀ set < 4, ∀ i < 256, recompute.get (set * 256 + i) =
         (s.colour.recompute.get (set * 256 + i) || (decide (start ≤ i) && decide (i < start + count))))) ∧
  (∀ (s : State) (f : RxFrame) (r : Record), Accepted s f r 0x23 →
     ∃ (sets : Table ShadeSet 4) (recompute : Table Bool 1024),
       exec .loadShade s = .next (State.advance
         { s with colour := { s.colour with sets := sets, recompute := recompute } } r) ∧
       (∀ n < 4, n ≠ byteAt r 0 0 → sets.get n = s.colour.sets.get n) ∧
       (∀ x, x = sets.get (byteAt r 0 0) →
         x.gain = ⟨min 511 (halfAt r 1 0), min 511 (halfAt r 2 0), min 511 (halfAt r 3 0)⟩ ∧
         x.offset = ⟨max (-512) (min 511 (halfOf (wordAt r.body 1) 1).toInt),
           max (-512) (min 511 (halfOf (wordAt r.body 2) 1).toInt),
           max (-512) (min 511 (halfOf (wordAt r.body 3) 1).toInt)⟩ ∧
         x.clip = (s.colour.sets.get (byteAt r 0 0)).clip) ∧
       (∀ set < 4, ∀ i < 256, recompute.get (set * 256 + i) =
         (s.colour.recompute.get (set * 256 + i) || decide (set = byteAt r 0 0))))

/-- An accepted LOAD_KEYMAP writes a run of one layer; the held set keeps what it recorded. An accepted LAMPS changes lamps 0
to 6 by their two mask bits. An accepted SET_KEYS sets the debounce count, clamped to 2 to 15, and the key hold limit. The
lamps as driven: lamps 0 to 6 by their states, lamp 7 lit in UP, dark in ABSENT, and in ACQUIRING and QUIET lit in the first
250 ms of each 500 ms of the time base; all dark in DOZE, and while the reset line is asserted (notes/assumptions/13.md). -/
def Obligations.KeyboardRecords : Prop :=
  (∀ (s : State) (f : RxFrame) (r : Record), Accepted s f r 0x24 →
    ∃ keymap : Table KeymapEntry 256,
      exec .loadKeymap s = .next (State.advance { s with keys := { s.keys with keymap := keymap } } r) ∧
      (∀ layer < 2, ∀ p < 128,
        ¬ (layer = byteAt r 0 0 ∧ byteAt r 0 1 ≤ p ∧ p < byteAt r 0 1 + byteAt r 0 2) →
        keymap.get (layer * 128 + p) = s.keys.keymap.get (layer * 128 + p)) ∧
      ∀ k < byteAt r 0 2, ∀ e, e = keymap.get (byteAt r 0 0 * 128 + (byteAt r 0 1 + k)) →
        e.code.toNat = byteAt r (1 + k) 0 ∧ (e.action = .key ↔ byteAt r (1 + k) 1 = 0) ∧
        (e.action = .fn ↔ byteAt r (1 + k) 1 = 1) ∧
        (byteAt r (1 + k) 1 = 2 → e.action = .lamp (byteAt r (1 + k) 2)) ∧
        (e.action = .ignore ↔ byteAt r (1 + k) 1 = 3)) ∧
  (∀ (s : State) (f : RxFrame) (r : Record), Accepted s f r 0x2A →
    ∃ lamps : Table Bool 7,
      exec .lamps s = .next (State.advance { s with keys := { s.keys with lamps := lamps } } r) ∧
      ∀ n < 7, ∀ on off : Bool, on = (byteOf (wordAt r.body 0) 0).getLsbD n → off = (byteOf (wordAt r.body 0) 1).getLsbD n →
        lamps.get n = (if on then (if off then !s.keys.lamps.get n else true)
          else (if off then false else s.keys.lamps.get n))) ∧
  (∀ (s : State) (f : RxFrame) (r : Record), Accepted s f r 0x2C →
    exec .setKeys s = .next (State.advance
      { s with
        keys := { s.keys with debounce := max 2 (min 15 (byteAt r 0 0)) }
        keyq := { s.keyq with holdLimit := ([some 0, some 500, some 2000, none][byteAt r 0 1]?).getD none } } r)) ∧
  (∀ (s : State) (n : Nat),
    (s.resetLine = true ∨ s.power.device = .doze → lampLit s n = false) ∧
    (s.resetLine = false → s.power.device ≠ .doze →
      (n < 7 → lampLit s n = s.keys.lamps.get n) ∧
      (s.link.state = .up → lampLit s 7 = true) ∧
      (s.link.state = .absent → lampLit s 7 = false) ∧
      (s.link.state = .acquiring ∨ s.link.state = .quiet →
        (lampLit s 7 = true ↔ s.status.timeBase.toNat % 500 < 250))))

/-- An accepted LOAD_PEN writes all nine fields of one pen and leaves the other 31. Accepted records that set one value:
LOAD_BANNER writes its run of words, SET_BANNER the banner length, BACKLIGHT the target level and not the actual
one, SET_NOTICE the notice enable mask, with no NOTICE made pending. -/
def Obligations.LoadPenAndSettings : Prop :=
  (∀ (s : State) (f : RxFrame) (r : Record), Accepted s f r 0x20 →
     ∃ (pens : Table Pen 32) (p : Pen),
       exec .loadPen s = .next (State.advance { s with engine := { s.engine with pens := pens } } r) ∧
       (∀ m < 32, pens.get m = if m = byteAt r 0 0 then p else s.engine.pens.get m) ∧
       p.fg.toNat = byteAt r 0 1 ∧ p.bg.toNat = byteAt r 0 2 ∧ (p.opaqueBg = true ↔ byteAt r 0 3 = 1) ∧
       (p.alu = .copy ↔ byteAt r 1 0 = 0) ∧ (p.alu = .and ↔ byteAt r 1 0 = 1) ∧ (p.alu = .or ↔ byteAt r 1 0 = 2) ∧
       (p.alu = .xor ↔ byteAt r 1 0 = 3) ∧ (p.bitOrder = .msbFirst ↔ byteAt r 1 1 = 0) ∧
       p.planeMask.toNat = byteAt r 1 2 ∧ p.keyColour.toNat = byteAt r 1 3 ∧ p.keyCare.toNat = byteAt r 2 0 ∧
       p.stipple = wordAt r.body 3) ∧
  ((∀ (s : State) (f : RxFrame) (r : Record), Accepted s f r 0x25 →
     ∃ store : Table Word 256,
       exec .loadBanner s = .next (State.advance { s with power := { s.power with bannerStore := store } } r) ∧
       (∀ k, k + 1 < r.body.length → store.get (byteAt r 0 0 + k) = wordAt r.body (1 + k)) ∧
       (∀ i < 256, i < byteAt r 0 0 ∨ byteAt r 0 0 + (r.body.length - 1) ≤ i →
         store.get i = s.power.bannerStore.get i)) ∧
   (∀ (s : State) (f : RxFrame) (r : Record), Accepted s f r 0x26 →
     exec .setBanner s = .next (State.advance { s with power := { s.power with bannerLength := halfAt r 0 0 } } r)) ∧
   (∀ (s : State) (f : RxFrame) (r : Record), Accepted s f r 0x29 →
     exec .backlight s = .next (State.advance { s with panel := { s.panel with target := byteAt r 0 0 } } r)) ∧
   (∀ (s : State) (f : RxFrame) (r : Record), Accepted s f r 0x2E →
     exec .setNotice s = .next (State.advance
       { s with status := { s.status with noticeMask := byteOf (wordAt r.body 0) 0 } } r)))

/-- A soft reset returns pens and panes to their reset values, ends the digest unit's work and frees the slot of an
outstanding request, clears the summary, mask, counters and pending NOTICE, and empties the last-refusal record; all the
rest, the walk included, is kept. CLEAR_COUNTS zeroes the 15 counters and the four clip flags and nothing else. -/
def Obligations.SoftResetAndClearCounts : Prop :=
  (∀ (s : State) (f : RxFrame) (r : Record), Accepted s f r 0x30 →
    ∃ slots : Table Slot 4,
      exec .reset s = .next (State.advance
        { s with
          engine := { s.engine with pens := State.reset.engine.pens }
          panes := State.reset.panes
          digest := State.reset.digest
          status := { State.reset.status with timeBase := s.status.timeBase }
          dec := { s.dec with slots := slots, lastRefusal := none } } r) ∧
      ∀ n < 4, slots.get n = if (∃ q, s.digest.request = some q ∧ q.slot = n) then .free else s.dec.slots.get n) ∧
  (∀ (s : State) (f : RxFrame) (r : Record), Accepted s f r 0x31 →
    ∃ sets : Table ShadeSet 4,
      exec .clearCounts s = .next (State.advance
        { s with
          status := { s.status with counters := State.reset.status.counters }
          colour := { s.colour with sets := sets } } r) ∧
      ∀ n < 4, sets.get n = { s.colour.sets.get n with clip := false })

/-! ## The panel -/

/-- An accepted SET_VIEW: the record's view is pending while the panel is scanning, replacing one already pending, and
active at once otherwise. The PANEL mode actions: each sets the pending value of its own mode while the panel is
scanning, and the mode in force at once otherwise; the other two modes are left. -/
def Obligations.ViewAndModesPendOrApply : Prop :=
  (∀ (s : State) (f : RxFrame) (r : Record), Accepted s f r 0x27 →
     ∃ v : View,
       v = { ox := halfAt r 0 0, oy := halfAt r 0 1, split := halfAt r 1 0, sx := halfAt r 2 0, sy := halfAt r 2 1
             planeEnable := byteOf (wordAt r.body 3) 3, swap := decide (byteAt r 3 0 = 1)
             mirrorX := decide (byteAt r 3 1 = 1), mirrorY := decide (byteAt r 3 2 = 1) } ∧
       (s.panel.state.scanning = true →
         exec .setView s = .next (State.advance { s with scan := { s.scan with pendingView := some v } } r)) ∧
       (s.panel.state.scanning = false →
         exec .setView s = .next (State.advance { s with scan := { s.scan with active := v } } r))) ∧
  (∀ (s : State) (f : RxFrame) (r : Record), Accepted s f r 0x28 →
     (s.panel.state.scanning = true →
       (byteAt r 0 0 = 2 → exec .panelFull s = .next (State.advance
         { s with panel := { s.panel with pendingArea := some .full } } r)) ∧
       (byteAt r 0 0 = 3 → exec .panelPartial s = .next (State.advance
         { s with panel := { s.panel with pendingArea := some (.band (halfAt r 1 0) (halfAt r 1 1)) } } r)) ∧
       (byteAt r 0 0 = 4 → exec .panelIdleOn s = .next (State.advance
         { s with panel := { s.panel with pendingIdle := some true } } r)) ∧
       (byteAt r 0 0 = 5 → exec .panelIdleOff s = .next (State.advance
         { s with panel := { s.panel with pendingIdle := some false } } r)) ∧
       (byteAt r 0 0 = 6 → exec .panelShow s = .next (State.advance
         { s with panel := { s.panel with pendingDisplay := some .show } } r)) ∧
       (byteAt r 0 0 = 7 → exec .panelBlank s = .next (State.advance
         { s with panel := { s.panel with pendingDisplay := some .blank } } r))) ∧
     (s.panel.state.scanning = false →
       (byteAt r 0 0 = 2 → exec .panelFull s = .next (State.advance
         { s with panel := { s.panel with area := .full } } r)) ∧
       (byteAt r 0 0 = 3 → exec .panelPartial s = .next (State.advance
         { s with panel := { s.panel with area := .band (halfAt r 1 0) (halfAt r 1 1) } } r)) ∧
       (byteAt r 0 0 = 4 → exec .panelIdleOn s = .next (State.advance
         { s with panel := { s.panel with idleMode := true } } r)) ∧
       (byteAt r 0 0 = 5 → exec .panelIdleOff s = .next (State.advance
         { s with panel := { s.panel with idleMode := false } } r)) ∧
       (byteAt r 0 0 = 6 → exec .panelShow s = .next (State.advance
         { s with panel := { s.panel with display := .show } } r)) ∧
       (byteAt r 0 0 = 7 → exec .panelBlank s = .next (State.advance
         { s with panel := { s.panel with display := .blank } } r))))

/-- PANEL START and STOP by the request table, from every state of the panel. Leaving RUNNING, the backlight goes to 0
and a pending view and pending modes are taken into force, and the frame under way is cut short with no frame end. The timed
phases of the panel. After 120 ms of power-up the blank frames begin, and scanning at the first position of a frame; after 20 ms of power-down the panel is OFF, PANEL_READY is set, and a pending START starts
it at once. -/
def Obligations.PanelRequestsAndPhases : Prop :=
  ((∀ (s : State) (f : RxFrame) (r : Record), Accepted s f r 0x28 → byteAt r 0 0 = 0 →
     (s.panel.state = .off →
       exec .panelStart s = .next (State.advance { s with panel := { s.panel with state := .powerUp 0, request := .none } } r)) ∧
     (s.panel.state.starting = true →
       exec .panelStart s = .next (State.advance { s with panel := { s.panel with request := .none } } r)) ∧
     (s.panel.state = .running → exec .panelStart s = .next (s.advance r)) ∧
     (s.panel.state.isStopping = true →
       exec .panelStart s = .next (State.advance { s with panel := { s.panel with request := .start } } r))) ∧
   (∀ (s : State) (f : RxFrame) (r : Record), Accepted s f r 0x28 → byteAt r 0 0 = 1 →
     (s.panel.state = .off → exec .panelStop s = .next (s.advance r)) ∧
     (s.panel.state.starting = true →
       exec .panelStop s = .next (State.advance { s with panel := { s.panel with request := .stop } } r)) ∧
     (s.panel.state = .running →
       exec .panelStop s = .next (State.advance
         { s with
           scan := { s.scan with active := s.scan.pendingView.getD s.scan.active, pendingView := none, scanned := 0 }
           panel := { s.panel with
             state := .stopping 0
             request := .none
             actual := 0
             display := s.panel.pendingDisplay.getD s.panel.display
             area := s.panel.pendingArea.getD s.panel.area
             idleMode := s.panel.pendingIdle.getD s.panel.idleMode
             pendingDisplay := none
             pendingArea := none
             pendingIdle := none } } r)) ∧
     (s.panel.state.isStopping = true →
       exec .panelStop s = .next (State.advance { s with panel := { s.panel with request := .none } } r)))) ∧
  ((∀ (s : State) (t : Nat), s.resetLine = false → s.panel.state = .powerUp t → 120 ≤ t →
     exec .powerUpEnd s = .next
       { s with scan := { s.scan with scanned := 0 }, panel := { s.panel with state := .blankFrames 0 } }) ∧
   (∀ (s : State) (t : Nat), s.resetLine = false → s.panel.state = .stopping t → 20 ≤ t →
     exec .powerDownEnd s = .next
       { s.setFlag .panelReady with
         panel := if s.panel.request = .start then { s.panel with state := .powerUp 0, request := .none }
           else { s.panel with state := .off } }))

/-- A frame end: the frame counter advances, wrapping at 16 bits; the next frame begins at its first position; a pending view and pending modes come into force; in RUNNING
the backlight moves toward its target by at most 4; the first blank frame is counted; the second takes the panel to
RUNNING with PANEL_READY set, and with STOP pending on at once to STOPPING. -/
def Obligations.FrameEndEffects : Prop :=
  ∀ (s : State) (scan : Scanout) (panel : Panel), s.resetLine = false →
    scan = { active := s.scan.pendingView.getD s.scan.active, pendingView := none, scanned := 0
             frameCounter := s.scan.frameCounter + 1 } →
    panel = { s.panel with
      display := s.panel.pendingDisplay.getD s.panel.display
      area := s.panel.pendingArea.getD s.panel.area
      idleMode := s.panel.pendingIdle.getD s.panel.idleMode
      pendingDisplay := none
      pendingArea := none
      pendingIdle := none } →
    (s.panel.state = .running →
      ∃ level, exec .frameEnd s = .next (State.releaseSync
          { s with scan := scan, panel := { panel with actual := level } }) ∧
        (s.panel.actual < s.panel.target → level = min s.panel.target (s.panel.actual + 4)) ∧
        (s.panel.target < s.panel.actual → level = max s.panel.target (s.panel.actual - 4)) ∧
        (s.panel.actual = s.panel.target → level = s.panel.actual)) ∧
    (s.panel.state = .blankFrames 0 →
      exec .frameEnd s = .next (State.releaseSync
        { s with scan := scan, panel := { panel with state := .blankFrames 1 } })) ∧
    (s.panel.state = .blankFrames 1 → s.panel.request ≠ .stop →
      exec .frameEnd s = .next (State.releaseSync
        { s.setFlag .panelReady with scan := scan, panel := { panel with state := .running } })) ∧
    (s.panel.state = .blankFrames 1 → s.panel.request = .stop →
      exec .frameEnd s = .next (State.releaseSync
        { s.setFlag .panelReady with
          scan := scan
          panel := { panel with state := .stopping 0, request := .none, actual := 0 } }))

/-! ## Questions and their replies -/

/-- An accepted ASK_STATUS, ASK_CELL, ASK_TABLE or ASK_ID is answered when it is taken, from the state at that moment. In
UP and QUIET the answer is finished in a slot that was FREE, noted after every finished reply; otherwise it is lost and
counted REPLIES_LOST. ASK_STATUS with clear option 1 in UP or QUIET then clears the summary and drops a pending NOTICE.
That the slot taken is the lowest-numbered FREE one is the model's choice: notes/assumptions/9.md. -/
def Obligations.AskIsAnswered : Prop :=
  ∀ (s : State) (f : RxFrame) (r : Record) (c : Instr) (body : List Word) (n : Nat),
    (c, body) ∈ (match r.kind.toNat with
      | 0x38 => [(Instr.askStatus, statusBody s)]
      | 0x3A => [(Instr.askCell, cellBody r s)]
      | 0x3B => [(Instr.askTable, tableBody r s)]
      | 0x3C => [(Instr.askId, identificationBody)]
      | _ => []) →
    Accepted s f r r.kind → s.dec.slots.get n = .free → n < 4 → (∀ m < n, s.dec.slots.get m ≠ .free) →
    (s.link.state.alive = true →
      ∃ order t, (∀ m < 4, (s.dec.slots.get m).isFinished = true → (s.dec.slots.get m).order < order) ∧
        t = { s with dec := { s.dec with slots := s.dec.slots.set n (.finished r.kind r.tag .ok body order) } } ∧
        exec c s = .next (State.advance
          (if c = .askStatus ∧ byteAt r 0 0 = 1 then
            { t with status := { t.status with summary := 0, noticePending := false } }
          else t) r)) ∧
    (s.link.state.alive = false →
      exec c s = .next ((withCounter s .repliesLost (min 65535 (s.counter .repliesLost + 1))).advance r))

/-- An ASK record that fails a check is refused with LENGTH or RANGE, and its reply carries that status with no body. An
ASK_DIGEST while a request is outstanding is refused with BUSY in the same way, and the request goes on undisturbed. -/
def Obligations.AskIsRefused : Prop :=
  ∀ (s : State) (f : RxFrame) (r : Record) (n : Nat) (reason : Reason) (status : ReplyStatus),
    AtRecord s f r → f.kind = .ctrl → 0x38 ≤ r.kind.toNat → r.kind.toNat ≤ 0x3C →
    (reason, status) ∈
      (if lengthMatches r = false then [(Reason.length, ReplyStatus.length)]
       else if fieldsInRange r = false then [(.range, .range)]
       else if r.kind = 0x39#8 ∧ s.digest.request.isSome = true then [(.busy, .busy)]
       else []) →
    s.dec.slots.get n = .free → n < 4 → (∀ m < n, s.dec.slots.get m ≠ .free) →
    ∃ u, u = s.refuse r.kind r.tag (some f.sequence) reason ∧
      (s.link.state.alive = true →
        ∃ order, (∀ m < 4, (s.dec.slots.get m).isFinished = true → (s.dec.slots.get m).order < order) ∧
          exec (recordCommand r) s = .next (State.advance
            { u with dec := { u.dec with slots := s.dec.slots.set n (.finished r.kind r.tag status [] order) } } r)) ∧
      (s.link.state.alive = false →
        exec (recordCommand r) s =
          .next ((withCounter u .repliesLost (min 65535 (s.counter .repliesLost + 1))).advance r))

/-- With no slot FREE an ASK record in a CTRL frame takes the decoder to SLOT_WAIT on it, and nothing else changes. When a
slot is FREE, SLOT_GRANTED completes: it deals with the waiting record as the record's own step does in WALKING, and the
decoder is left at the next record, or IDLE at the payload's end. -/
def Obligations.SlotWaitAndGrant : Prop :=
  (∀ (s : State) (f : RxFrame) (r : Record), AtRecord s f r → f.kind = .ctrl → 0x38 ≤ r.kind.toNat → r.kind.toNat ≤ 0x3C →
    (∀ n < 4, s.dec.slots.get n ≠ .free) →
    ∃ c, s.dec.state = .walking c ∧
      exec (recordCommand r) s = .next { s with dec := { s.dec with state := .slotWait c } }) ∧
  (∀ (s u : State) (f : RxFrame) (r : Record) (c n : Nat), s.resetLine = false → s.dec.state = .slotWait c →
    u = { s with dec := { s.dec with state := .walking c } } → AtRecord u f r → f.kind = .ctrl →
    0x38 ≤ r.kind.toNat → r.kind.toNat ≤ 0x3C → n < 4 → s.dec.slots.get n = .free →
    ∃ t, exec .slotGranted s = .next t ∧ exec (recordCommand r) u = .next t ∧
      t.dec.state =
        if c + 4 + 4 * r.body.length < f.payload.length then .walking (c + 4 + 4 * r.body.length) else .idle)

/-- The answer of ASK_CELL: nine words, of which bit 31 − i stands for pixel i of the cell counted from the left, and
the answer of ASK_ID, which does not change. The answer of ASK_STATUS, word by word (spec/12_formats.md, STATUS
body). -/
def Obligations.CellIdAndStatusAnswers : Prop :=
  ((∀ (s : State) (r : Record), (cellBody r s).length = 9 ∧
     (∀ p < 8, ∀ i < 32, ((cellBody r s).getD p 0).getLsbD (31 - i) =
       (s.pixel (32 * byteAt r 0 0 + i) (halfAt r 0 1)).getLsbD p) ∧
     (∀ i < 32, ((cellBody r s).getD 8 0).getLsbD (31 - i) =
       decide ((s.pixel (32 * byteAt r 0 0 + i) (halfAt r 0 1) ^^^ byteOf (wordAt r.body 1) 0) &&&
         byteOf (wordAt r.body 1) 1 = 0))) ∧
   identificationBody.flatMap bytesOfWord =
     [0x17#8, 0x0A#8, 0x40#8, 0xDB#8, 2#8, 8#8, 32#8, 0#8, 0x00#8, 0x05#8, 0x00#8, 0x06#8, 32#8, 16#8, 4#8, 2#8,
      0x00#8, 0x01#8, 128#8, 0#8, 32#8, 10#8, 8#8, 4#8, 16#8, 0#8, 0x00#8, 0x20#8, 0x00#8, 0x04#8, 15#8, 0#8]) ∧
  (∀ (s : State) (w : Nat → Word), (∀ k, w k = (statusBody s).getD k 0) →
     (statusBody s).length = 21 ∧
     byteOf (w 0) 0 = s.status.summary ∧ byteOf (w 0) 1 = s.status.noticeMask ∧
     byteOf (w 0) 2 = s.link.state.code ∧ byteOf (w 0) 3 = s.power.device.code ∧
     w 1 = s.status.timeBase ∧
     halfOf (w 2) 0 = s.scan.frameCounter ∧ halfOf (w 2) 1 = half (occupancy s.rxq.frames) ∧
     byteOf (w 3) 0 = byte s.rxq.frames.length ∧ byteOf (w 3) 1 = byte s.keyq.events.length ∧
     byteOf (w 3) 2 = byte s.keys.held.length ∧
     (∀ n < 8, (byteOf (w 3) 3).getLsbD n = (decide (n < 4) && (s.colour.sets.get n).clip)) ∧
     byteOf (w 4) 0 = s.panel.state.code ∧ byteOf (w 4) 1 = s.panel.request.code ∧
     ((byteOf (w 4) 2).getLsbD 0 = true ↔ s.panel.display = .blank) ∧
     ((byteOf (w 4) 2).getLsbD 1 = true ↔ s.panel.area ≠ .full) ∧
     ((byteOf (w 4) 2).getLsbD 2 = true ↔ s.panel.idleMode = true) ∧ byteOf (w 4) 3 = byte s.panel.target ∧
     byteOf (w 5) 0 = byte s.panel.actual ∧
     (∀ n < 16, (halfOf (w 5) 1).getLsbD n = (s.panes.get n).lost) ∧
     (s.panel.area = .full → w 6 = 0) ∧
     (∀ top bottom, s.panel.area = .band top bottom → halfOf (w 6) 0 = half top ∧ halfOf (w 6) 1 = half bottom) ∧
     (∀ n < 16, byteOf (w (7 + n / 4)) (n % 4) = (s.panes.get n).digest.code) ∧
     (s.dec.lastRefusal = none → w 11 = 0 ∧ w 12 = 0) ∧
     (∀ l, s.dec.lastRefusal = some l →
       byteOf (w 11) 0 = l.kind ∧ byteOf (w 11) 1 = l.tag ∧ byteOf (w 11) 2 = l.sequence.getD 0 ∧
       byteOf (w 11) 3 = l.reason.code ∧ w 12 = if l.sequence.isSome then 1 else 2) ∧
     (∀ c : Counter, halfOf (w (13 + c.index / 2)) (c.index % 2) = half (s.counter c)))

/-- The answer of ASK_TABLE for each table. Word 0 repeats the request's bytes, its reserved byte 0. Then comes the entry
that the request names, as it stands, in the layout in which it is loaded: the loading record that holds these words gives
it back, into whatever entry they are loaded. A pane's four words hold its fields whether or not it is valid; the fifth its
digest state, lost and presence bits, the sixth its digest value, 0 where there is none. Byte 1 of a shade set's word 0 is
its clip flag. An action that is not LAMP sends lamp number 0. Word 0 and the word with the entry's number and the clip flag
are the model's reading: notes/assumptions/21.md; so is that lamp number: notes/assumptions/10.md. -/
def Obligations.TableAnswersAreLoadLayouts : Prop :=
  ∀ (s : State) (r : Record) (w : Nat → Word) (n : Nat), (∀ k, w k = (tableBody r s).getD k 0) → n = byteAt r 0 2 →
    (∀ k < 3, byteOf (w 0) k = byteOf (wordAt r.body 0) k) ∧ byteOf (w 0) 3 = 0 ∧
    (byteAt r 0 0 = 0 →
      (tableBody r s).length = 5 ∧ byteOf (w 1) 0 = byte n ∧ penOf ((tableBody r s).drop 1) = s.engine.pens.get n) ∧
    (byteAt r 0 0 = 1 → ∀ p, p = s.panes.get n →
      (tableBody r s).length = 7 ∧ byteOf (w 1) 0 = byte n ∧ (byteOf (w 1) 1 = if p.valid then 1 else 0) ∧
      (byteOf (w 1) 2 = if p.access = .shut then 1 else 0) ∧ byteOf (w 4) 0 = p.fill ∧
      (p.left + p.width ≤ 1280 → p.top + p.height ≤ 1536 → p.shadeSet ≤ 3 →
        (byteOf (w 1) 3).toNat = p.shadeSet ∧ (halfOf (w 2) 0).toNat = p.left ∧ (halfOf (w 2) 1).toNat = p.top ∧
        (halfOf (w 3) 0).toNat = p.width ∧ (halfOf (w 3) 1).toNat = p.height ∧
        ∀ (q : Pane) (kind tag : Byte) (back : Pane),
          back = q.loaded n ⟨kind, tag, ((tableBody r s).drop 1).take 4⟩ →
          (p.valid = true → 1 ≤ n →
            back = { p with digest := q.digest, dozeDigest := q.dozeDigest, lost := false }) ∧
          (p.valid = true → n = 0 →
            back = { q with valid := true, access := p.access, shadeSet := p.shadeSet, fill := p.fill, lost := false }) ∧
          (p.valid = false → back = { q with valid := false, lost := false })) ∧
      (byteOf (w 5) 0 =
        match p.digest with
        | .none => 0
        | .pending => 1
        | .running => 2
        | .valid _ => 3
        | .stale => 4) ∧
      (byteOf (w 5) 1 = if p.lost then 1 else 0) ∧ byteOf (w 5) 3 = 0 ∧ halfOf (w 6) 1 = 0 ∧
      (∀ v, p.digest = .valid v → byteOf (w 5) 2 = 1 ∧ halfOf (w 6) 0 = v) ∧
      ((∀ v, p.digest ≠ .valid v) → byteOf (w 5) 2 = 0 ∧ halfOf (w 6) 0 = 0)) ∧
    (byteAt r 0 0 = 2 → ∀ e, e = s.colour.palette.get n → e.colour.red ≤ 1023 → e.colour.green ≤ 1023 →
      e.colour.blue ≤ 1023 → (palettePairs ((tableBody r s).drop 1)).map paletteEntryOf = [e]) ∧
    (byteAt r 0 0 = 3 → ∀ x, x = s.colour.sets.get n →
      (tableBody r s).length = 5 ∧ byteOf (w 1) 0 = byte n ∧ (byteOf (w 1) 1 = if x.clip then 1 else 0) ∧
      (x.gain.red ≤ 511 → x.gain.green ≤ 511 → x.gain.blue ≤ 511 →
        -512 ≤ x.offset.red → x.offset.red ≤ 511 → -512 ≤ x.offset.green → x.offset.green ≤ 511 →
        -512 ≤ x.offset.blue → x.offset.blue ≤ 511 →
        shadeSetOf ((tableBody r s).drop 1) x.clip = x)) ∧
    (byteAt r 0 0 = 4 → ∀ e, e = s.keys.keymap.get (byteAt r 0 1 * 128 + n) →
      ((∀ m, e.action = .lamp m → m ≤ 6) → ((tableBody r s).drop 1).map keymapEntryOf = [e]) ∧
      ((∀ m, e.action ≠ .lamp m) → byteOf (w 1) 2 = 0))

/-! ## Digests -/

/-- The digest of a pane is a CRC-16 over its indices, rows from top to bottom and each from left to right; the check values
of the manual. -/
def Obligations.DigestIsCrcOfPixels : Prop :=
  (∀ (store : List Host.Cell) (p : Pane),
    (rectPixels store p.left p.top p.width p.height).length = p.width * p.height ∧
    paneDigest store p = crc16 (rectPixels store p.left p.top p.width p.height) ∧
    ∀ i < p.width, ∀ j < p.height,
      (rectPixels store p.left p.top p.width p.height).getD (j * p.width + i) 0 =
        readCell store (pixelAddress (p.left + i) (p.top + j))) ∧
  crc16 [0x31, 0x32, 0x33, 0x34, 0x35, 0x36, 0x37, 0x38, 0x39] = 0x29B1#16 ∧ crc16 [0x00] = 0xE1F0#16

/-- How the digest unit goes on with no pane running: the lowest-numbered pending pane becomes the running pane; with none
pending, a request none of whose panes is PENDING or RUNNING is complete, and its reply lists the panes of its mask in
ascending number, finished in its slot in UP and QUIET and lost otherwise. -/
def Obligations.DigestUnitGoesOn : Prop :=
  (∀ (s : State) (n : Nat), n < 16 → s.digest.pendingSet.get n = true → (∀ m < n, s.digest.pendingSet.get m = false) →
    s.digestGoOn =
      { s with
        digest := { s.digest with pendingSet := s.digest.pendingSet.set n false, running := some n }
        panes := s.panes.set n { s.panes.get n with digest := .running } }) ∧
  (∀ s : State, (∀ m < 16, s.digest.pendingSet.get m = false) → s.digestGoOn = s.examineRequest) ∧
  (∀ s : State, s.digest.request = none → s.examineRequest = s) ∧
  (∀ (s : State) (q : DigestRequest), s.digest.request = some q → q.slot < 4 →
    ((∃ n < 16, q.mask.getLsbD n = true ∧ ((s.panes.get n).digest = .pending ∨ (s.panes.get n).digest = .running)) →
      s.examineRequest = s) ∧
    ((∀ n < 16, q.mask.getLsbD n = true → (s.panes.get n).digest ≠ .pending ∧ (s.panes.get n).digest ≠ .running) →
      ∃ u, u = { s with digest := { s.digest with work := .idle, request := none } } ∧
        (s.link.state.alive = true → ∃ order,
          (∀ m < 4, (s.dec.slots.get m).isFinished = true → (s.dec.slots.get m).order < order) ∧
          s.examineRequest = { u with dec := { u.dec with
            slots := s.dec.slots.set q.slot (.finished 0x39 q.tag .ok (digestBody s.panes q.mask) order) } }) ∧
        (s.link.state.alive = false → s.examineRequest =
          { withCounter u .repliesLost (min 65535 (s.counter .repliesLost + 1)) with
            dec := { u.dec with slots := s.dec.slots.set q.slot .free } }))) ∧
  (∀ (panes : Table Pane 16) (mask : BitVec 16) (numbers : List Nat),
    numbers = (List.range 16).filter (fun n => mask.getLsbD n) →
    (digestBody panes mask).length = 1 + numbers.length ∧
    (digestBody panes mask).getD 0 0 = BitVec.ofNat 32 numbers.length ∧
    ∀ k (h : k < numbers.length), ∀ d, d = (panes.get numbers[k]).digest →
      byteOf ((digestBody panes mask).getD (1 + k) 0) 0 = byte numbers[k] ∧
      byteOf ((digestBody panes mask).getD (1 + k) 0) 1 = d.code ∧
      halfOf ((digestBody panes mask).getD (1 + k) 0) 1 = d.value)

/-- An accepted ASK_DIGEST becomes the outstanding request in its slot: each valid pane of the mask that is NONE or
STALE becomes PENDING and joins the pending set, and with no pane running the unit goes on. DIGEST_RUN_END: the
running pane becomes VALID with the CRC of its pixels as they stand, and the unit goes on. -/
def Obligations.DigestRequestAndRun : Prop :=
  (∀ (s : State) (f : RxFrame) (r : Record) (n : Nat), Accepted s f r 0x39 → s.digest.request = none →
     s.digest.running = none → n < 4 → s.dec.slots.get n = .free → (∀ m < n, s.dec.slots.get m ≠ .free) →
     ∃ (panes : Table Pane 16) (waiting : Table Bool 16),
       exec .askDigest s = .next (State.advance (State.digestGoOn
         { s with
           dec := { s.dec with slots := s.dec.slots.set n (.reserved r.kind r.tag) }
           panes := panes
           digest := { work := .serving, pendingSet := waiting, running := none
                       request := some { mask := halfOf (wordAt r.body 0) 0, tag := r.tag, slot := n } } }) r) ∧
       ∀ m < 16,
         ((halfOf (wordAt r.body 0) 0).getLsbD m = true ∧ (s.panes.get m).valid = true ∧
             ((s.panes.get m).digest = .none ∨ (s.panes.get m).digest = .stale) →
           panes.get m = { s.panes.get m with digest := .pending } ∧ waiting.get m = true) ∧
         (¬ ((halfOf (wordAt r.body 0) 0).getLsbD m = true ∧ (s.panes.get m).valid = true ∧
             ((s.panes.get m).digest = .none ∨ (s.panes.get m).digest = .stale)) →
           panes.get m = s.panes.get m ∧ waiting.get m = s.digest.pendingSet.get m)) ∧
  (∀ (s : State) (n : Nat), s.resetLine = false → s.digest.running = some n → n < 16 →
     exec .digestRunEnd s = .next (State.digestGoOn
       { s with
         panes := s.panes.set n
           { s.panes.get n with digest := .valid (paneDigest s.store (s.panes.get n)) }
         digest := { s.digest with running := none } }))

/-- A touch of a pixel: every valid pane whose rectangle contains it goes from VALID or RUNNING to STALE, and keeps NONE,
PENDING or STALE; every other pane keeps its whole entry, and every doze digest and lost field is kept. The run of a touched
running pane is abandoned and the unit goes on; otherwise nothing else changes. -/
def Obligations.TouchChangesDigestStates : Prop :=
  ∀ (s : State) (x y : Nat), ∃ panes : Table Pane 16,
    (∀ n < 16,
      ((s.panes.get n).valid = true ∧ (s.panes.get n).left ≤ x ∧ x < (s.panes.get n).left + (s.panes.get n).width ∧
          (s.panes.get n).top ≤ y ∧ y < (s.panes.get n).top + (s.panes.get n).height →
        panes.get n = { s.panes.get n with digest :=
          match (s.panes.get n).digest with
          | .none => .none
          | .pending => .pending
          | .running => .stale
          | .valid _ => .stale
          | .stale => .stale }) ∧
      (¬ ((s.panes.get n).valid = true ∧ (s.panes.get n).left ≤ x ∧ x < (s.panes.get n).left + (s.panes.get n).width ∧
          (s.panes.get n).top ≤ y ∧ y < (s.panes.get n).top + (s.panes.get n).height) →
        panes.get n = s.panes.get n)) ∧
    (∀ n, s.digest.running = some n → n < 16 →
      (s.panes.get n).valid = true → (s.panes.get n).contains x y = true →
      s.touch x y = State.digestGoOn { s with panes := panes, digest := { s.digest with running := none } }) ∧
    ((∀ n, s.digest.running = some n → n < 16 ∧ ((s.panes.get n).valid = false ∨ (s.panes.get n).contains x y = false)) →
      s.touch x y = { s with panes := panes })

namespace Sys2Proof.Statements

/-! ## Draw records, pixel by pixel (R60 to R91) -/

/-- The draw record `r` of kind `k` stands at the cursor in a DRAW frame, and the engine is FREE. -/
def DrawAtCursor (s : State) (f : RxFrame) (r : Record) (k : DrawKind) : Prop :=
  AtRecord s f r ∧ f.kind = .draw ∧ r.kind = k.code ∧ s.engine.holder = .free

/-- The kind carries data words: GLYPH or PLANES. -/
def carriesData (k : DrawKind) : Prop := k = .glyph ∨ k = .planes

/-- The kind copies: MOVE or KEYMOVE. -/
def copiesPixels (k : DrawKind) : Prop := k = .move ∨ k = .keymove

/-- The body length a record requires, with the data words of R77. -/
def requiredWords (k : DrawKind) (pen : Pen) (body : List Word) : Nat :=
  match k with
  | .fill => 3
  | .clear => 1
  | .glyph => 3 + recH body * ((recW body + 31) / 32)
  | .planes => 3 + recH body * ((List.range 8).countP (fun p => pen.planeMask.getLsbD p)) * ((recW body + 31) / 32)
  | .move => 4
  | .keymove => 4

/-- Step 1 of R78: the fixed part is there. -/
def fixedPartMatches (k : DrawKind) (body : List Word) : Prop :=
  (carriesData k → 3 ≤ body.length) ∧ (¬ carriesData k → body.length = requiredWords k default body)

/-- Offset (i, j) of a record with a rectangle is kept by the clipping of R80, or of R88 for a copy. -/
def kept (k : DrawKind) (pane : Pane) (body : List Word) (i j : Int) : Prop :=
  0 ≤ i ∧ i < recW body ∧ 0 ≤ j ∧ j < recH body ∧
    0 ≤ recX body + i ∧ recX body + i < pane.width ∧ 0 ≤ recY body + j ∧ recY body + j < pane.height ∧
    (copiesPixels k → 0 ≤ recSx body + i ∧ recSx body + i < 1280 ∧ 0 ≤ recSy body + j ∧ recSy body + j < 1536)

/-- Bit `i` of data word `n` onward of a record, as the pen's bit order has it used (R70, R83). -/
def pictureBit (pen : Pen) (body : List Word) (n i : Nat) : Bool :=
  let w := wordAt body (3 + (n + i / 32))
  if pen.bitOrder = .lsbFirst then w.getLsbD (i % 32) else w.getLsbD (31 - i % 32)

/-- The glyph bit of offset (i, j) (R84). -/
def glyphAt (pen : Pen) (body : List Word) (i j : Nat) : Bool := pictureBit pen body (j * ((recW body + 31) / 32)) i

/-- The data bit of offset (i, j) for plane p, whose rank counts the planes of the mask below it (R85, R86). -/
def planeAt (pen : Pen) (body : List Word) (p i j : Nat) : Bool :=
  pictureBit pen body
    (j * (List.range 8).countP (fun q => pen.planeMask.getLsbD q) * ((recW body + 31) / 32) +
      (List.range p).countP (fun q => pen.planeMask.getLsbD q) * ((recW body + 31) / 32)) i

/-- Bit p of the operand A of offset (i, j), with the source indices as they stood before the record (R63, R89). -/
def operandBit (s : State) (k : DrawKind) (pen : Pen) (body : List Word) (i j p : Nat) : Bool :=
  match k with
  | .fill => pen.fg.getLsbD p
  | .clear => pen.fg.getLsbD p
  | .glyph => if glyphAt pen body i j then pen.fg.getLsbD p else pen.bg.getLsbD p
  | .planes => pen.planeMask.getLsbD p && planeAt pen body p i j
  | .move => (s.pixel (recSx body + i).toNat (recSy body + j).toNat).getLsbD p
  | .keymove => (s.pixel (recSx body + i).toNat (recSy body + j).toNat).getLsbD p

/-- The enable E of offset (i, j), whose destination lies in frame-store column x (R65, R67, R68, R69). -/
def enabled (s : State) (k : DrawKind) (pen : Pen) (body : List Word) (x i j : Nat) : Bool :=
  pen.stipple.getLsbD (31 - x % 32) &&
    (match k with
     | .glyph => pen.opaqueBg || glyphAt pen body i j
     | .keymove =>
       decide ((s.pixel (recSx body + i).toNat (recSy body + j).toNat ^^^ pen.keyColour) &&& pen.keyCare ≠ 0)
     | _ => true)

/-- Bit p of the ALU result (R64). -/
def aluBit (alu : Alu) (a l : Bool) : Bool :=
  match alu with
  | .copy => a
  | .and => a && l
  | .or => a || l
  | .xor => a != l

/-- The record writes pixel (x, y): with a rectangle, the pixel's offset is kept; a CLEAR covers its pane. -/
def writes (s : State) (k : DrawKind) (body : List Word) (x y : Nat) : Prop :=
  let pane := s.panes.get (recPane body)
  if k = .clear then pane.contains x y = true
  else kept k pane body ((x : Int) - (pane.left + recX body)) ((y : Int) - (pane.top + recY body))

/-- The pen in force: the named pen, or for CLEAR the parameters of R71. -/
def penInForce (s : State) (k : DrawKind) (body : List Word) : Pen :=
  if k = .clear then penless (s.panes.get (recPane body)).fill else s.engine.pens.get (recPen body)

/-- The offset of a pixel from the position of a record's rectangle. -/
def offsetX (s : State) (body : List Word) (x : Nat) : Nat :=
  ((x : Int) - ((s.panes.get (recPane body)).left + recX body)).toNat
def offsetY (s : State) (body : List Word) (y : Nat) : Nat :=
  ((y : Int) - ((s.panes.get (recPane body)).top + recY body)).toNat

/-- The record touches pixel (x, y): it writes it with enable 1 through a plane mask that is not 0 (R66). -/
def touchesPixel (s : State) (k : DrawKind) (body : List Word) (x y : Nat) : Prop :=
  writes s k body x y ∧ (penInForce s k body).planeMask ≠ 0 ∧
    enabled s k (penInForce s k body) body x (offsetX s body x) (offsetY s body y) = true

end Sys2Proof.Statements

/-! ## Draw records -/

/-- The pixel arithmetic: the ALU result of each alu, plane by plane, and COPY for the three writers without a pen; the
worked values of the manual. -/
def Obligations.AluCombinesPlanes : Prop :=
  (∀ a l : Byte, Alu.apply .copy a l = a ∧ Alu.apply .and a l = a &&& l ∧ Alu.apply .or a l = a ||| l ∧
    Alu.apply .xor a l = a ^^^ l) ∧
  (∀ (alu : Alu) (a l a' l' : Byte) (p : Nat), a.getLsbD p = a'.getLsbD p → l.getLsbD p = l'.getLsbD p →
    (alu.apply a l).getLsbD p = (alu.apply a' l').getLsbD p) ∧
  (∀ (n : Nat) (pane : Pane), (clearJob n pane).pen.alu = .copy ∧ (clearJob n pane).pen.fg = pane.fill) ∧
  (∀ s t : State, exec .clearPassEnd s = .next t → s.resetLine = false → s.engine.holder = .clearPass → t.store = []) ∧
  Alu.apply .copy 0x0C#8 0x97#8 = 0x0C#8 ∧ Alu.apply .and 0x0C#8 0x97#8 = 0x04#8 ∧
  Alu.apply .or 0x0C#8 0x97#8 = 0x9F#8 ∧ Alu.apply .xor 0x0C#8 0x97#8 = 0x9B#8

/-- The stipple bit of column X is bit 31 − (X mod 32), the same in every row. -/
def Obligations.StippleSelectsColumns : Prop :=
  (∀ (p : Pen) (x : Nat), p.stippleBit x = p.stipple.getLsbD (31 - x % 32)) ∧
  (∀ (p : Pen) (x : Nat), p.stippleBit (x + 32) = p.stippleBit x) ∧
  (∀ (p : Pen) (x : Nat), p.stipple = 0xFFFFFFFF#32 → p.stippleBit x = true) ∧
  (∀ (p : Pen) (x : Nat), p.stipple = 0xAAAAAAAA#32 → (p.stippleBit x = true ↔ x % 2 = 0)) ∧
  (∀ (p : Pen) (x : Nat), p.stipple = 0x55555555#32 → (p.stippleBit x = true ↔ x % 2 = 1)) ∧
  (∀ (p : Pen) (x : Nat), p.stipple = 0xF0F0F0F0#32 → (p.stippleBit x = true ↔ x % 8 ≤ 3)) ∧
  (∀ (p : Pen) (x : Nat), p.stipple = 0x80000000#32 → (p.stippleBit x = true ↔ x % 32 = 0)) ∧
  (∀ (p : Pen) (x : Nat), p.stipple = 0#32 → p.stippleBit x = false)

/-- The examination of a draw record in order: LENGTH, RANGE, NO_PANE, LENGTH of the data, SHUT, empty size, clipped away.
At each of these steps the record is completed at once and nothing is written. -/
def Obligations.DrawChecksInOrder : Prop :=
  ∀ (s : State) (f : RxFrame) (r : Record) (k : DrawKind), DrawAtCursor s f r k →
    (¬ fixedPartMatches k r.body →
      exec (drawStep k) s = .next ((s.refuse r.kind r.tag (some f.sequence) .length).advance r)) ∧
    (fixedPartMatches k r.body → 15 < recPane r.body ∨ 31 < recPen r.body →
      exec (drawStep k) s = .next ((s.refuse r.kind r.tag (some f.sequence) .range).advance r)) ∧
    (fixedPartMatches k r.body → recPane r.body ≤ 15 → recPen r.body ≤ 31 →
      ∀ pane, pane = s.panes.get (recPane r.body) →
      (pane.valid = false →
        exec (drawStep k) s = .next ((s.refuse r.kind r.tag (some f.sequence) .noPane).advance r)) ∧
      (pane.valid = true → r.body.length ≠ requiredWords k (s.engine.pens.get (recPen r.body)) r.body →
        exec (drawStep k) s = .next ((s.refuse r.kind r.tag (some f.sequence) .length).advance r)) ∧
      (pane.valid = true → r.body.length = requiredWords k (s.engine.pens.get (recPen r.body)) r.body →
        (pane.access = .shut →
          exec (drawStep k) s =
            .next ((withCounter s .shutDrops (min 65535 (s.counter .shutDrops + 1))).advance r)) ∧
        (pane.access = .opened → k ≠ .clear → recW r.body = 0 ∨ recH r.body = 0 →
          exec (drawStep k) s = .next (s.advance r)) ∧
        (pane.access = .opened → k ≠ .clear → recW r.body ≠ 0 → recH r.body ≠ 0 →
          (∀ i j, ¬ kept k pane r.body i j) →
          exec (drawStep k) s =
            .next ((withCounter s .clipped (min 65535 (s.counter .clipped + 1))).advance r))))

/-- A draw record that is drawn: the engine goes to the decoder with the record's destination set, every kept offset once
and no other, counted CLIPPED where an offset of its rectangle is missing; a CLEAR's is its whole pane, never counted. The
decoder stays on the record, and no pixel is written yet. -/
def Obligations.DrawnRecordTakesEngine : Prop :=
  ∀ (s : State) (f : RxFrame) (r : Record) (k : DrawKind) (pane : Pane), DrawAtCursor s f r k →
    fixedPartMatches k r.body → recPane r.body ≤ 15 → recPen r.body ≤ 31 → pane = s.panes.get (recPane r.body) →
    pane.valid = true → pane.access = .opened →
    r.body.length = requiredWords k (s.engine.pens.get (recPen r.body)) r.body →
    (k = .clear ∨ ∃ i j, kept k pane r.body i j) →
    ∃ (job : Job) (u : State),
      exec (drawStep k) s = .next { u with engine := { s.engine with holder := .decoder, job := some job } } ∧
      job.kind = k ∧ job.pen = penInForce s k r.body ∧ job.pane = recPane r.body ∧ job.todo.Nodup ∧
      (k = .clear → u = s ∧ job.left = pane.left ∧ job.top = pane.top ∧
        ∀ i j : Nat, (i, j) ∈ job.todo ↔ i < pane.width ∧ j < pane.height) ∧
      (k ≠ .clear →
        job.left = pane.left + recX r.body ∧ job.top = pane.top + recY r.body ∧
        (∀ i j : Nat, (i, j) ∈ job.todo ↔ kept k pane r.body i j) ∧
        ((∃ i j : Nat, i < recW r.body ∧ j < recH r.body ∧ ¬ kept k pane r.body i j) →
          u = withCounter s .clipped (min 65535 (s.counter .clipped + 1))) ∧
        ((∀ i j : Nat, i < recW r.body → j < recH r.body → kept k pane r.body i j) → u = s))

/-- DRAW_COMPLETE, in every state in which the engine is at work on the record at the decoder's cursor: what is left of the
destination set is painted, every pixel that is not left in it keeps its index, the engine is FREE and the decoder goes past
the record. A draw record from its step to DRAW_COMPLETE, over a sound store, with any number of its first offsets
carried out by milliseconds that passed between: every pixel it covers ends, plane by plane, as the pixel rule gives for
the operand, the enable and the index of the pixel before the record, with a copy's source indices those of before the
record however source and destination overlap; every other pixel keeps its index. A CLEAR has cleared its pane's lost field,
and no other pane's. -/
def Obligations.DrawnRecordPaintsByPixelRule : Prop :=
  (∀ (s : State) (f : RxFrame) (r : Record) (job : Job), AtRecord s f r → s.engine.holder = .decoder →
    s.engine.job = some job →
    ∃ u, exec .drawComplete s = .next (State.advance u r) ∧
      u = { s.finishJob job with engine := { s.engine with holder := .free, job := none } } ∧
      (StoreSound s → ∀ x y : Nat, x < 1280 → y < 1536 →
        (∀ o ∈ job.todo, ¬ (job.left + o.1 = x ∧ job.top + o.2 = y)) → u.pixel x y = s.pixel x y)) ∧
  (∀ (s t v : State) (f : RxFrame) (r : Record) (k : DrawKind) (job : Job) (m : Nat), StoreSound s → DrawAtCursor s f r k →
    exec (drawStep k) s = .next t → t.engine.holder = .decoder → t.engine.job = some job →
    AtRecord v f r → v.engine.holder = .decoder → v.engine.job = some { job with todo := job.todo.drop m } →
    v.store = (t.paint job (job.todo.take m)).store →
    ∃ u, exec .drawComplete v = .next (State.advance u r) ∧
      u = { v with
        store := u.store
        panes := u.panes
        digest := u.digest
        dec := { v.dec with slots := u.dec.slots }
        status := { v.status with counters := u.status.counters }
        engine := { v.engine with holder := .free, job := none } } ∧
      (∀ x y, x < 1280 → y < 1536 →
        (writes s k r.body x y → ∀ p < 8,
          (u.pixel x y).getLsbD p =
            if (penInForce s k r.body).planeMask.getLsbD p &&
                enabled s k (penInForce s k r.body) r.body x (offsetX s r.body x) (offsetY s r.body y) then
              aluBit (penInForce s k r.body).alu
                (operandBit s k (penInForce s k r.body) r.body (offsetX s r.body x) (offsetY s r.body y) p)
                ((s.pixel x y).getLsbD p)
            else (s.pixel x y).getLsbD p) ∧
        (¬ writes s k r.body x y → u.pixel x y = s.pixel x y)) ∧
      ∀ n < 16, u.panes.get n =
        { v.panes.get n with
          digest := (u.panes.get n).digest
          lost := (v.panes.get n).lost && !(decide (k = .clear) && decide (n = recPane r.body)) })

/-- What a drawn record touches, with no digest run under way: a pane's VALID digest becomes STALE exactly where the record
touches one of its pixels, whether or not an index changed; with a plane mask of 0 or an enable of 0 everywhere it keeps
its value. No other digest state changes, and the digest unit is left as it was. -/
def Obligations.DrawnRecordTouchesPanes : Prop :=
  ∀ (s t : State) (f : RxFrame) (r : Record) (k : DrawKind), StoreSound s → DrawAtCursor s f r k →
    exec (drawStep k) s = .next t → t.engine.holder = .decoder → s.digest.running = none →
    (∀ n < 16, (s.panes.get n).digest ≠ .running) →
    ∃ u, exec .drawComplete t = .next (State.advance u r) ∧ u.digest = s.digest ∧ u.dec.slots = s.dec.slots ∧
      ∀ n < 16,
        ((s.panes.get n).valid = true →
          (∃ x y, x < 1280 ∧ y < 1536 ∧ (s.panes.get n).contains x y = true ∧ touchesPixel s k r.body x y) →
          (u.panes.get n).digest =
            match (s.panes.get n).digest with
            | .valid _ => .stale
            | d => d) ∧
        (¬ ((s.panes.get n).valid = true ∧
            ∃ x y, x < 1280 ∧ y < 1536 ∧ (s.panes.get n).contains x y = true ∧ touchesPixel s k r.body x y) →
          (u.panes.get n).digest = (s.panes.get n).digest)

/-! ## Doze and retention -/

/-- The doze timer, or an accepted DOZE record in ACTIVE, takes the device to ENTERING: a RUNNING or STARTING panel is
remembered as on, and STOP is requested of it. A DOZE record in ENTERING has no effect. An accepted SET_OUTAGE sets
both delays for the running timers too: with the outage timer at or above the new banner delay the banner is due at
once, or marked played where there is none; with the doze timer of an ABSENT link at or above the new doze delay an
ACTIVE device enters ENTERING at once. -/
def Obligations.DozeEntryAndSetOutage : Prop :=
  ((∀ s : State, s.resetLine = false → s.power.device = .active → s.link.state = .absent →
     s.power.dozeDelay ≤ s.power.dozeTimer → exec .dozeTimerExpiry s = .next s.enterEntering) ∧
   (∀ (s : State) (f : RxFrame) (r : Record), Accepted s f r 0x2F →
     (s.power.device = .active → exec .doze s = .next (s.enterEntering.advance r)) ∧
     (s.power.device ≠ .active → exec .doze s = .next (s.advance r))) ∧
   (∀ (s : State) (power : Power),
     power = { s.power with
       device := .entering
       remembered := s.panel.state.starting || decide (s.panel.state = .running) } →
     (s.panel.state = .off → s.enterEntering = { s with power := power }) ∧
     (s.panel.state.starting = true →
       s.enterEntering = { s with power := power, panel := { s.panel with request := .stop } }) ∧
     (s.panel.state.isStopping = true →
       s.enterEntering = { s with power := power, panel := { s.panel with request := .none } }) ∧
     (s.panel.state = .running → ∃ scan panel,
       s.enterEntering = State.releaseSync { s with power := power, scan := scan, panel := panel } ∧
       scan = { s.scan with active := s.scan.pendingView.getD s.scan.active, pendingView := none, scanned := 0 } ∧
       panel.state = .stopping 0 ∧ panel.request = .none ∧ panel.actual = 0 ∧ panel.target = s.panel.target ∧
       panel.display = s.panel.pendingDisplay.getD s.panel.display ∧
       panel.area = s.panel.pendingArea.getD s.panel.area ∧
       panel.idleMode = s.panel.pendingIdle.getD s.panel.idleMode ∧
       panel.pendingDisplay = none ∧ panel.pendingArea = none ∧ panel.pendingIdle = none))) ∧
  (∀ (s : State) (f : RxFrame) (r : Record) (banner doze : Nat), Accepted s f r 0x2D →
     [250, 500, 1000, 2000][byteAt r 0 0]? = some banner → [10000, 30000, 60000, 300000][byteAt r 0 1]? = some doze →
     ∃ u : State,
       u = { s with power := { s.power with
         bannerDelay := banner
         dozeDelay := doze
         bannerPlayed := s.power.bannerPlayed ||
           (decide (∃ t, s.power.outage = some t ∧ banner ≤ t) && !s.power.bannerDue && decide (s.power.bannerLength = 0))
         bannerDue := s.power.bannerDue ||
           (decide (∃ t, s.power.outage = some t ∧ banner ≤ t) && !s.power.bannerPlayed &&
             decide (s.power.bannerLength ≠ 0)) } } ∧
       (s.power.device = .active ∧ s.link.state = .absent ∧ doze ≤ s.power.dozeTimer →
         exec .setOutage s = .next (u.enterEntering.advance r)) ∧
       (¬ (s.power.device = .active ∧ s.link.state = .absent ∧ doze ≤ s.power.dozeTimer) →
         exec .setOutage s = .next (u.advance r)))

/-- The retention pass: with the queue empty, the decoder IDLE, the engine FREE and the digest unit IDLE in ENTERING it
begins with the lowest valid pane; each pane's digest is stored as VALID and as its doze digest; after the last valid pane
the unit is IDLE, the device DOZE, and STOP is requested again. -/
def Obligations.RetentionPass : Prop :=
  (∀ (s : State) (n : Nat), s.resetLine = false → s.power.device = .entering → s.rxq.frames = [] → s.dec.state = .idle →
    s.engine.holder = .free → s.digest.work = .idle → n < 16 → (s.panes.get n).valid = true →
    (∀ m < n, (s.panes.get m).valid = false) →
    exec .retentionPassStart s = .next { s with digest := { s.digest with work := .pass n } }) ∧
  (∀ (s : State) (n : Nat) (v : BitVec 16) (u : State), s.resetLine = false → s.digest.work = .pass n → n < 16 →
    v = paneDigest s.store (s.panes.get n) →
    u = { s with panes := s.panes.set n { s.panes.get n with digest := .valid v, dozeDigest := some v } } →
    (∀ m, n < m → m < 16 → (s.panes.get m).valid = true → (∀ l, n < l → l < m → (s.panes.get l).valid = false) →
      exec .retentionPassPaneDone s = .next { u with digest := { u.digest with work := .pass m } }) ∧
    ((∀ m, n < m → m < 16 → (s.panes.get m).valid = false) →
      exec .retentionPassPaneDone s = .next (State.requestStop
        { u with digest := { u.digest with work := .idle }, power := { u.power with device := .doze } })))

/-- An aborted doze entry: a pass in progress stops and every doze digest is dropped, the device is ACTIVE, START is
requested of a panel remembered on, and the doze timer of an ABSENT link is set to 0. The wake: the oscillator wait
of 4 ms ends and the check begins with the lowest pane that holds a doze digest; with none it ends at once. The end
of the check drops the doze digests, takes the device to ACTIVE, sets WOKE, and RETENTION_LOSS if a pane was lost,
requests START of a panel remembered on, and sets the doze timer of an ABSENT link to 0. -/
def Obligations.DozeAbortAndWake : Prop :=
  (∀ s : State, ∃ (panes : Table Pane 16) (work : DigestWork) (u : State),
     u = { s with panes := panes, digest := { s.digest with work := work }, power := { s.power with device := .active } } ∧
     (∀ n, s.digest.work = .pass n → work = .idle ∧
       ∀ m < 16, panes.get m = { s.panes.get m with dozeDigest := none }) ∧
     ((∀ n, s.digest.work ≠ .pass n) → work = s.digest.work ∧ panes = s.panes) ∧
     s.abortDoze =
       (if s.link.state = .absent then
         { (if s.power.remembered then u.requestStart else u) with power := { u.power with dozeTimer := 0 } }
       else if s.power.remembered then u.requestStart else u)) ∧
  ((∀ (s u : State) (t : Nat), s.resetLine = false → s.power.device = .waking → s.power.oscillator = some t → 4 ≤ t →
     u = { s with power := { s.power with oscillator := none } } →
     (∀ n < 16, (s.panes.get n).dozeDigest ≠ none → (∀ m < n, (s.panes.get m).dozeDigest = none) →
       exec .oscillatorWaitEnd s = .next { u with digest := { u.digest with work := .check n [] } }) ∧
     ((∀ n < 16, (s.panes.get n).dozeDigest = none) → exec .oscillatorWaitEnd s = .next (u.endCheck false))) ∧
   (∀ (s : State) (lost : Bool), ∃ (panes : Table Pane 16) (u v : State),
     (∀ n < 16, panes.get n = { s.panes.get n with dozeDigest := none }) ∧
     u = { s with panes := panes, digest := { s.digest with work := .idle } } ∧
     v = State.setFlag
       { (if lost then u.setFlag .retentionLoss else u) with power := { u.power with device := .active } } .woke ∧
     s.endCheck lost =
       (if s.link.state = .absent then
         { (if s.power.remembered then v.requestStart else v) with power := { v.power with dozeTimer := 0 } }
       else if s.power.remembered then v.requestStart else v)))

/-- The retention check of one pane: the recomputed digest against the doze digest. An intact pane is VALID with it; a
lost one is noted and left until the comparisons are done. Then the lowest lost pane is marked lost and NONE and its
clearing begins with the engine held for RETENTION; with none lost the check ends. The retention clearing of one
lost pane, with any number of its first pixels cleared by milliseconds that passed before its end: every pixel of its
rectangle ends at its fill colour and every other pixel keeps its index, and every valid pane that is VALID and overlaps the
rectangle is STALE, while every other digest state stays. The next lost pane is then marked and cleared, or the engine is
given back and the check ends with a loss. In which order the pixels of a clearing come is the model's reading
(notes/assumptions/25.md); the outcome is the same in any. -/
def Obligations.RetentionCheckAndClearing : Prop :=
  (∀ (s u : State) (n : Nat) (lost found : List Nat) (v : BitVec 16), s.resetLine = false →
     s.digest.work = .check n lost → s.engine.holder = .free → n < 16 → v = paneDigest s.store (s.panes.get n) →
     ((s.panes.get n).dozeDigest = some v →
       found = lost ∧ u = { s with panes := s.panes.set n { s.panes.get n with digest := .valid v } }) →
     ((s.panes.get n).dozeDigest ≠ some v → found = lost ++ [n] ∧ u = s) →
     (∀ m, n < m → m < 16 → (s.panes.get m).dozeDigest ≠ none → (∀ l, n < l → l < m → (s.panes.get l).dozeDigest = none) →
       exec .retentionCheckPaneDone s = .next { u with digest := { u.digest with work := .check m found } }) ∧
     ((∀ m, n < m → m < 16 → (s.panes.get m).dozeDigest = none) →
       (found = [] → exec .retentionCheckPaneDone s = .next (u.endCheck false)) ∧
       (∀ first rest p, found = first :: rest → first < 16 →
         p = { u.panes.get first with lost := true, digest := .none } →
         exec .retentionCheckPaneDone s = .next
           { u with
             panes := u.panes.set first p
             engine := { u.engine with holder := .retention, job := some (clearJob first p) }
             digest := { u.digest with work := .clearing (first :: rest) } }))) ∧
  (∀ (s v : State) (n k : Nat) (rest : List Nat) (job : Job), StoreSound s → n < 16 → job = clearJob n (s.panes.get n) →
     s.engine.job = some job → v.resetLine = false → v.engine.holder = .retention → v.digest.work = .clearing (n :: rest) →
     v.engine.job = some { job with todo := job.todo.drop k } → v.store = (s.paint job (job.todo.take k)).store →
     ∃ u : State,
       (∀ x y, x < 1280 → y < 1536 →
         u.pixel x y = if (s.panes.get n).contains x y = true then (s.panes.get n).fill else s.pixel x y) ∧
       (rest = [] → exec .retentionClearPaneDone v = .next
         (State.endCheck { u with engine := { u.engine with holder := .free, job := none } } true)) ∧
       (∀ m rest' p, rest = m :: rest' → p = { u.panes.get m with lost := true, digest := .none } →
         exec .retentionClearPaneDone v = .next
           { u with
             panes := u.panes.set m p
             engine := { u.engine with holder := .retention, job := some (clearJob m p) }
             digest := { u.digest with work := .clearing (m :: rest') } }) ∧
       (v.digest.running = none →
         u = { v with store := u.store, panes := u.panes } ∧
         ∀ m < 16, u.panes.get m = { v.panes.get m with digest := (u.panes.get m).digest }) ∧
       (v.digest.running = none → s.digest.running = none → v.panes = (s.paint job (job.todo.take k)).panes →
         (∀ m < 16, (s.panes.get m).digest ≠ .running) → ∀ m < 16,
         ((s.panes.get m).valid = true ∧
             (∃ x y, (s.panes.get m).contains x y = true ∧ (s.panes.get n).contains x y = true) →
           (u.panes.get m).digest =
             match (s.panes.get m).digest with
             | .valid _ => .stale
             | d => d) ∧
         (¬ ((s.panes.get m).valid = true ∧
             ∃ x y, (s.panes.get m).contains x y = true ∧ (s.panes.get n).contains x y = true) →
           (u.panes.get m).digest = (s.panes.get m).digest)))

/-- In DOZE any pixel may lose its index without a write: nothing but that pixel changes. The model's choices: outside DOZE
the step does not occur and leaves the state as it is (notes/assumptions/7.md), and a pixel the store does not have is a
fault of the model (notes/assumptions/22.md). -/
def Obligations.DozePixelLossChangesOnePixel : Prop :=
  (∀ (s : State) (x y : Nat) (v : Byte), Memory.wf s.store = true → s.resetLine = false → s.power.device = .doze →
    x < 1280 → y < 1536 →
    ∃ t, exec (.dozePixelLoss x y v) s = .next t ∧ t = { s with store := t.store } ∧ t.pixel x y = v ∧
      ∀ x' y', x' < 1280 → y' < 1536 → ¬ (x' = x ∧ y' = y) → t.pixel x' y' = s.pixel x' y') ∧
  (∀ (s : State) (x y : Nat) (v : Byte), s.power.device ≠ .doze → x < 1280 → y < 1536 →
    exec (.dozePixelLoss x y v) s = .next s) ∧
  (∀ (s : State) (x y : Nat) (v : Byte), 1280 ≤ x ∨ 1536 ≤ y → exec (.dozePixelLoss x y v) s = .fault .noSuchPixel)

/-! ## The banner -/

/-- The banner delay of an outage with the flag clear makes a play due, or sets the flag where there is no banner. The
grant, with the engine FREE, the device ACTIVE, the queue empty and the decoder IDLE, sets the flag; the play ends
at once with the panel OFF or STOPPING or no banner, and else the list is read from byte 0. The walk of the banner
list. At the banner length the play ends; at a record that runs past it or names no draw kind it ends with MALFORMED
counted; a draw record is examined as in a DRAW frame, a refusal carrying no sequence, and is held for its outcome.
BANNER_RECORD_DONE finishes the record's drawing and reads on past it. -/
def Obligations.BannerPlay : Prop :=
  ((∀ (s : State) (t : Nat), s.resetLine = false → s.power.outage = some t → s.power.bannerDelay ≤ t →
     s.power.bannerPlayed = false → s.power.bannerDue = false →
     exec .bannerDelayExpiry s = .next { s with power :=
       if s.power.bannerLength = 0 then { s.power with bannerPlayed := true } else { s.power with bannerDue := true } }) ∧
   (∀ s : State, s.resetLine = false → s.power.bannerDue = true → s.engine.holder = .free → s.power.device = .active →
     s.rxq.frames = [] → s.dec.state = .idle →
     ∃ u, u = { s with power := { s.power with bannerDue := false, bannerPlayed := true } } ∧
       (s.panel.state = .off ∨ s.panel.state.isStopping = true ∨ s.power.bannerLength = 0 → exec .bannerGrant s = .next u) ∧
       (s.panel.state ≠ .off → s.panel.state.isStopping = false → s.power.bannerLength ≠ 0 →
         exec .bannerGrant s = .next (u.bannerRead 0)))) ∧
  ((∀ (s : State) (c : Nat) (list : List Byte),
     list = ((s.power.bannerStore.toList.flatMap bytesOfWord).take s.power.bannerLength).drop c →
     ∀ ended : State → State,
       ended = (fun u => { u with
         power := { u.power with bannerCursor := none }
         engine := { u.engine with holder := .free, job := none } }) →
       (s.power.bannerLength ≤ c → s.bannerRead c = ended s) ∧
       (c < s.power.bannerLength →
         (∀ r, readRecord list = some (.whole r) → isDrawCode r.kind = false) →
         s.bannerRead c = ended (withCounter s .malformed (min 65535 (s.counter .malformed + 1)))) ∧
       (∀ r k, c < s.power.bannerLength → readRecord list = some (.whole r) → r.kind = k.code →
         ∀ o, o = examineDraw k s.engine.pens s.panes r.body →
         s.bannerRead c =
           { s.noteOutcome o r.kind r.tag none with
             power := { s.power with bannerCursor := some c }
             engine := { s.engine with holder := .banner, job := o.job? } })) ∧
   (∀ (s : State) (c : Nat) (r : Record), s.resetLine = false → s.engine.holder = .banner →
     s.power.bannerCursor = some c →
     readRecord (((s.power.bannerStore.toList.flatMap bytesOfWord).take s.power.bannerLength).drop c) = some (.whole r) →
     isDrawCode r.kind = true →
     (s.engine.job = none → exec .bannerRecordDone s = .next (s.bannerRead (c + 4 + 4 * r.body.length))) ∧
     (∀ job, s.engine.job = some job →
       exec .bannerRecordDone s = .next ((s.finishJob job).bannerRead (c + 4 + 4 * r.body.length)))))

/-! ## Keyboard -/

/-- A scan in which a rectangle of the matrix has its four corners pressed is discarded whole and counted GHOST. Otherwise
each position is debounced: a state that differs from the accepted one for the N-th time is accepted and its counter goes to
0, a smaller count stands, and a state that agrees clears the counter. The accepted breaks are then processed and after them
the accepted makes, each in ascending position. -/
def Obligations.KeyScanDebounces : Prop :=
  ∀ (s : State) (raw : BitVec 128) (k : KeyScanner), s.resetLine = false →
    (if s.power.device = .doze then 16 else 1) ≤ s.keys.sinceScan →
    k = { s.keys with rawMatrix := raw, sinceScan := 0 } →
    ((∃ d1 d2 n1 n2, d1 < 8 ∧ d2 < 8 ∧ n1 < 16 ∧ n2 < 16 ∧ d1 ≠ d2 ∧ n1 ≠ n2 ∧
        raw.getLsbD (d1 * 16 + n1) = true ∧ raw.getLsbD (d1 * 16 + n2) = true ∧
        raw.getLsbD (d2 * 16 + n1) = true ∧ raw.getLsbD (d2 * 16 + n2) = true) →
      exec (.keyScan raw) s =
        .next { withCounter s .ghost (min 65535 (s.counter .ghost + 1)) with keys := k }) ∧
    ((∀ d1 d2 n1 n2, d1 < 8 → d2 < 8 → n1 < 16 → n2 < 16 → d1 ≠ d2 → n1 ≠ n2 →
        ¬ (raw.getLsbD (d1 * 16 + n1) = true ∧ raw.getLsbD (d1 * 16 + n2) = true ∧
          raw.getLsbD (d2 * 16 + n1) = true ∧ raw.getLsbD (d2 * 16 + n2) = true)) →
      ∃ (accepted : Table Bool 128) (counters : Table Nat 128) (breaks makes : List Nat),
        exec (.keyScan raw) s = .next (makes.foldl State.processMake (breaks.foldl State.processBreak
          { s with keys := { k with accepted := accepted, counters := counters } })) ∧
        breaks.Pairwise (· < ·) ∧ makes.Pairwise (· < ·) ∧
        (∀ p ∈ breaks, p < 128) ∧ (∀ p ∈ makes, p < 128) ∧
        ∀ p < 128,
          (raw.getLsbD p = s.keys.accepted.get p →
            accepted.get p = s.keys.accepted.get p ∧ counters.get p = 0 ∧ p ∉ breaks ∧ p ∉ makes) ∧
          (raw.getLsbD p ≠ s.keys.accepted.get p → s.keys.counters.get p + 1 < s.keys.debounce →
            accepted.get p = s.keys.accepted.get p ∧ counters.get p = s.keys.counters.get p + 1 ∧
              p ∉ breaks ∧ p ∉ makes) ∧
          (raw.getLsbD p ≠ s.keys.accepted.get p → s.keys.debounce ≤ s.keys.counters.get p + 1 →
            accepted.get p = raw.getLsbD p ∧ counters.get p = 0 ∧
              (p ∈ makes ↔ raw.getLsbD p = true) ∧ (p ∈ breaks ↔ raw.getLsbD p = false)))

/-- A make, by the entry of its position in the layer in force, which is 1 while a held key has action FN: IGNORE does
nothing; with 10 keys held it is counted OVERROLL; otherwise the key joins the held set at its end, KEY and LAMP
queue a MAKE, LAMP toggles its lamp, and FN queues nothing. Every make wakes a device in DOZE. A break of a held key
queues a BREAK with the code and layer recorded at its make, for KEY and LAMP, and takes the key out of the held
set; a break of a key that is not held has no effect. An event that reaches a queue of 32 is dropped, counted, and
sets KEY_OVERRUN and both pending flags; otherwise it joins the tail. -/
def Obligations.MakesAndBreaks : Prop :=
  (∀ (s : State) (p layer : Nat) (e : KeymapEntry) (woken : State → State),
     ((∃ h ∈ s.keys.held, h.action = .fn) → layer = 1) → ((∀ h ∈ s.keys.held, h.action ≠ .fn) → layer = 0) →
     e = s.keys.keymap.get (layer * 128 + p) →
     woken = (fun u => if u.power.device = .doze then
       { u with power := { u.power with device := .waking, oscillator := some 0 } } else u) →
     (e.action = .ignore → s.processMake p = woken s) ∧
     (e.action ≠ .ignore → 10 ≤ s.keys.held.length →
       s.processMake p = woken (withCounter s .overroll (min 65535 (s.counter .overroll + 1)))) ∧
     (e.action ≠ .ignore → s.keys.held.length < 10 →
       ∃ (u : State) (event : KeyEvent),
         u = { s with keys := { s.keys with held := s.keys.held ++ [⟨p, e.code, layer, e.action⟩] } } ∧
         event = ⟨.make, e.code, p, layer, s.status.timeBase⟩ ∧
         (e.action = .key → s.processMake p = woken (u.queueKey event)) ∧
         (∀ n, e.action = .lamp n → s.processMake p = woken (State.queueKey
           { u with keys := { u.keys with lamps := u.keys.lamps.set n (!u.keys.lamps.get n) } } event)) ∧
         (e.action = .fn → s.processMake p = woken u))) ∧
  ((∀ (s : State) (p : Nat), (∀ h ∈ s.keys.held, h.position ≠ p) → s.processBreak p = s) ∧
   (∀ (s : State) (before after : List HeldKey) (h : HeldKey), s.keys.held = before ++ h :: after →
     (∀ g ∈ before, g.position ≠ h.position) → (∀ g ∈ after, g.position ≠ h.position) →
     ∃ u, u = { s with keys := { s.keys with held := before ++ after } } ∧
       (h.action = .fn ∨ h.action = .ignore → s.processBreak h.position = u) ∧
       (h.action ≠ .fn → h.action ≠ .ignore →
         s.processBreak h.position = u.queueKey ⟨.break, h.code, h.position, h.layer, s.status.timeBase⟩)) ∧
   (∀ (s : State) (e : KeyEvent),
     (s.keyq.events.length < 32 → s.queueKey e = { s with keyq := { s.keyq with events := s.keyq.events ++ [e] } }) ∧
     (32 ≤ s.keyq.events.length → s.queueKey e = State.setFlag
       { withCounter s .keyOverrun (min 65535 (s.counter .keyOverrun + 1)) with
         keyq := { s.keyq with overrunPending := true, snapshotPending := true } } .keyOverrun)))

/-! ## The upstream lane -/

/-- The IDLE transmitter in UP or QUIET sends a pending flow symbol for the flow state of that moment and clears its
flag; with none pending and an event in the key queue it starts a KEYS frame with up to 8 of the oldest events, and
with the held snapshot, clearing both pending flags, where one is pending and the frame empties the queue. Behind
flow symbols and KEYS frames comes the reply that was finished earliest, whose slot becomes FREE, and behind the
replies a pending NOTICE, which carries the whole summary and clears it. The end of a frame returns the transmitter
to IDLE, whatever the link state. -/
def Obligations.UpstreamSources : Prop :=
  (∀ s : State, s.resetLine = false → s.link.state = .up ∨ s.link.state = .quiet → s.up.transmitter = .idle →
     (s.up.flowPending = true →
       exec .flowSymbolSend s = .next
         { s with up := { s.up with flowPending := false, lastSymbol := some s.rxq.flow } }) ∧
     (s.up.flowPending = false → s.keyq.events ≠ [] →
       ∃ (frame : UpFrame) (snapshot : List HeldKey) (carried : Bool),
         frame.kind = .keys ∧ frame.sequence = s.up.sequence ∧
         carried = (s.keyq.snapshotPending && decide (s.keyq.events.length ≤ 8)) ∧
         snapshot = (if carried then s.keys.held else []) ∧
         frame.payload =
           [byte (min 8 s.keyq.events.length), flagByte s.keyq.overrunPending, flagByte carried, byte snapshot.length] ++
             ((s.keyq.events.take 8).map (fun e =>
               [if e.kind = .make then 0#8 else 1#8, e.code, byte e.position, byte e.layer, e.stamp.extractLsb' 0 8,
                 e.stamp.extractLsb' 8 8, 0#8, 0#8])).flatten ++
             (snapshot.map (fun h => [byte h.position, h.code, 0#8, 0#8])).flatten ∧
         exec .keysFrameStart s = .next
           { s with
             up := { s.up with transmitter := .sending frame, sequence := s.up.sequence + 1 }
             keyq := { s.keyq with
               events := s.keyq.events.drop 8
               overrunPending := s.keyq.overrunPending && !carried
               snapshotPending := s.keyq.snapshotPending && !carried } })) ∧
  ((∀ s : State, s.resetLine = false → s.link.state = .up ∨ s.link.state = .quiet → s.up.transmitter = .idle →
     s.up.flowPending = false → s.keyq.events = [] →
     (∀ n kind tag status body order, n < 4 → s.dec.slots.get n = .finished kind tag status body order →
       (∀ m < 4, m ≠ n → (s.dec.slots.get m).isFinished = true → order < (s.dec.slots.get m).order) →
       exec .replyFrameStart s = .next
         { s with
           up := { s.up with
             transmitter := .sending
               { kind := .reply, sequence := s.up.sequence
                 payload := [kind, tag, status.code, 0#8] ++ (body.map bytesOfWord).flatten }
             sequence := s.up.sequence + 1 }
           dec := { s.dec with slots := s.dec.slots.set n .free } }) ∧
     ((∀ n < 4, (s.dec.slots.get n).isFinished = false) → s.status.noticePending = true →
       exec .noticeFrameStart s = .next
         { s with
           up := { s.up with
             transmitter := .sending
               { kind := .notice, sequence := s.up.sequence
                 payload := [s.status.summary, s.status.noticeMask, s.status.timeBase.extractLsb' 0 8,
                   s.status.timeBase.extractLsb' 8 8] }
             sequence := s.up.sequence + 1 }
           status := { s.status with summary := 0, noticePending := false } })) ∧
   (∀ s : State, s.resetLine = false →
     exec .upstreamFrameEnd s = .next { s with up := { s.up with transmitter := .idle } }) ∧
   (∀ f : UpFrame, f.payload.length < 65536 →
     f.bytes.length = f.payload.length + 8 ∧
     f.bytes.take 6 = [(match f.kind with | .keys => 0x81#8 | .reply => 0x82#8 | .notice => 0x83#8), 0#8, f.sequence, 0#8,
       BitVec.ofNat 8 f.payload.length, BitVec.ofNat 8 (f.payload.length / 256)] ∧
     f.bytes.drop (f.payload.length + 6) = bytesOfHalf (crc16 (f.bytes.take (f.payload.length + 6)))))

/-! ## Status unit -/

/-- What a refusal leaves: REFUSED counted and set, which may make a NOTICE pending, and all four fields of the last-
refusal record; nothing else. A counter's advance, which stops at 65535 and touches no other counter, and the
setting of a flag, which leaves the others and makes a NOTICE pending when the flag is newly set under its enable
bit in UP or QUIET. -/
def Obligations.RefusalsCountersAndFlags : Prop :=
  (∀ (s : State) (kind tag : Byte) (sequence : Option Byte) (reason : Reason),
     s.refuse kind tag sequence reason =
       { s with
         dec := { s.dec with lastRefusal := some ⟨kind, tag, sequence, reason⟩ }
         status := { s.status with
           counters := s.status.counters.set 7 (min 65535 (s.counter .refused + 1))
           summary := s.status.summary ||| 0x02#8
           noticePending := s.status.noticePending ||
             (!s.status.summary.getLsbD 1 && s.status.noticeMask.getLsbD 1 && s.link.state.alive) } }) ∧
  ((∀ (s : State) (c : Counter) (k : Nat),
     s.count c k = { s with status := { s.status with counters := (s.count c k).status.counters } } ∧
     (s.count c k).counter c = min 65535 (s.counter c + k) ∧
     ∀ d : Counter, d ≠ c → (s.count c k).counter d = s.counter d) ∧
   (∀ (s : State) (f : Flag),
     s.setFlag f = { s with status := { s.status with
       summary := (s.setFlag f).status.summary, noticePending := (s.setFlag f).status.noticePending } } ∧
     (s.setFlag f).flag f = true ∧ (∀ g : Flag, g ≠ f → (s.setFlag f).flag g = s.flag g) ∧
     ((s.setFlag f).status.noticePending = true ↔ s.status.noticePending = true ∨
       (s.flag f = false ∧ s.status.noticeMask.getLsbD f.bit = true ∧ (s.link.state = .up ∨ s.link.state = .quiet)))))

/-! ## Colour and scanout -/

/-- The shade arithmetic of one channel of a shaded entry: the gain rounded to nearest with halves upward, the offset added
to the rounded value, saturation to 0 to 1023; a set of gain 256 and offset 0 changes nothing. -/
def Obligations.ShadeArithmetic : Prop :=
  (∀ c gain : Nat, c ≤ 1023 → gain ≤ 511 →
    gained c gain = (c * gain + 128) / 256 ∧ gained c gain ≤ 2042 ∧
    ∀ offset : Int, -512 ≤ offset → offset ≤ 511 → ∀ w, w = (gained c gain : Int) + offset →
      -512 ≤ w ∧ w ≤ 2553 ∧ offsetted c gain offset = w ∧
      (w < 0 → saturated w = 0 ∧ saturates w = true) ∧ (1023 < w → saturated w = 1023 ∧ saturates w = true) ∧
      (0 ≤ w → w ≤ 1023 → (saturated w : Int) = w ∧ saturates w = false) ∧
      panelValue false c gain offset = min 63 ((saturated w + 8) / 16)) ∧
  (∀ c : Nat, c ≤ 1023 → gained c 256 = c ∧ saturated (offsetted c 256 0) = c ∧ saturates (offsetted c 256 0) = false) ∧
  (∀ (c gain : Nat) (offset : Int), panelValue true c gain offset = min 63 ((c + 8) / 16)) ∧
  (∀ p : Nat, p ≤ 63 → idleReduced p = if 32 ≤ p then 63 else 0)

/-- RECOMPUTE_STEP takes the pair that comes first in the order of set and then of index: it leaves the recompute set, and its
entry is written from the palette and the set as they stand. A shading of a non-fixed entry that saturates in any channel
sets the set's clip flag and SHADE_CLIP. With the recompute set empty nothing happens. -/
def Obligations.RecomputeStepWritesFirstPair : Prop :=
  (∀ (s : State) (k : Nat) (e : PaletteEntry) (x : ShadeSet) (u : State), s.resetLine = false → k < 1024 →
    s.colour.recompute.get k = true → (∀ m < k, s.colour.recompute.get m = false) →
    e = s.colour.palette.get (k % 256) → x = s.colour.sets.get (k / 256) →
    u = { s with colour := { s.colour with
      recompute := s.colour.recompute.set k false
      shaded := s.colour.shaded.set k
        ⟨panelValue e.fixed e.colour.red x.gain.red x.offset.red,
         panelValue e.fixed e.colour.green x.gain.green x.offset.green,
         panelValue e.fixed e.colour.blue x.gain.blue x.offset.blue⟩ } } →
    (e.fixed = false ∧
        (saturates (offsetted e.colour.red x.gain.red x.offset.red) = true ∨
          saturates (offsetted e.colour.green x.gain.green x.offset.green) = true ∨
          saturates (offsetted e.colour.blue x.gain.blue x.offset.blue) = true) →
      exec .recomputeStep s = .next (State.setFlag
        { u with colour := { u.colour with sets := u.colour.sets.set (k / 256) { x with clip := true } } } .shadeClip)) ∧
    (e.fixed = true ∨
        (saturates (offsetted e.colour.red x.gain.red x.offset.red) = false ∧
          saturates (offsetted e.colour.green x.gain.green x.offset.green) = false ∧
          saturates (offsetted e.colour.blue x.gain.blue x.offset.blue) = false) →
      exec .recomputeStep s = .next u)) ∧
  (∀ s : State, (∀ k < 1024, s.colour.recompute.get k = false) → exec .recomputeStep s = .next s)

/-- From a logical position to the frame-store pixel shown there, by origin, split and split origin, with both windows
wrapping; every position gives a pixel of the store. -/
def Obligations.OriginAndSplit : Prop :=
  ∀ (v : View) (lx ly : Nat),
    (ly < v.split → storePixelOf v lx ly = ((v.ox + lx) % 1280, (v.oy + ly) % 1536)) ∧
    (v.split ≤ ly → storePixelOf v lx ly = ((v.sx + lx) % 1280, (v.sy + ly - v.split) % 1536)) ∧
    (storePixelOf v lx ly).1 < 1280 ∧ (storePixelOf v lx ly).2 < 1536

/-- From a physical position to the logical one it shows: the mirrors on physical positions and then the swap; each logical
position of the picture appears at exactly one physical position. -/
def Obligations.OrientationIsOneToOne : Prop :=
  ∀ v : View,
    (∀ px py, px < 1280 → py < 800 → ∀ px' py', px' = (if v.mirrorX then 1279 - px else px) →
      py' = (if v.mirrorY then 799 - py else py) →
      logicalOf v px py = if v.swap then (py', px') else (px', py')) ∧
    (∀ lx ly, lx < (if v.swap then 800 else 1280) → ly < (if v.swap then 1280 else 800) →
      ∃! p : Nat × Nat, p.1 < 1280 ∧ p.2 < 800 ∧ logicalOf v p.1 p.2 = (lx, ly))

/-- What is sent to the panel at a physical position: black while the panel is not RUNNING, in display mode BLANK, outside
the band of PARTIAL; otherwise the shaded palette entry of the pixel's index under the plane enable, in the shade set of the
highest-numbered valid pane that contains the pixel, reduced in idle mode. A frame sends its positions by physical lines from
0 to 799, and along each line from physical column 0 to 1279: from where the scan stands, each next position in its turn with
its values, and after the last of them none. While the panel is not scanning nothing is sent. -/
def Obligations.PanelOutputAtPosition : Prop :=
  (∀ (s : State) (px py : Nat),
    (s.panel.state ≠ .running ∨ s.panel.display = .blank ∨
        (∃ top bottom, s.panel.area = .band top bottom ∧ ¬ (top ≤ py ∧ py ≤ bottom)) →
      panelOutput s px py = ⟨0, 0, 0⟩) ∧
    (∀ fx fy n c, s.power.device ≠ .doze → s.panel.state = .running → s.panel.display = .show →
      (∀ top bottom, s.panel.area = .band top bottom → top ≤ py ∧ py ≤ bottom) →
      (fx, fy) = storePixelOf s.scan.active (logicalOf s.scan.active px py).1 (logicalOf s.scan.active px py).2 →
      n < 16 → (s.panes.get n).valid = true → (s.panes.get n).contains fx fy = true →
      (∀ m, n < m → m < 16 → ¬ ((s.panes.get m).valid = true ∧ (s.panes.get m).contains fx fy = true)) →
      c = s.colour.shaded.get ((s.panes.get n).shadeSet * 256 + (s.pixel fx fy &&& s.scan.active.planeEnable).toNat) →
      panelOutput s px py =
        if s.panel.idleMode then
          ⟨if 32 ≤ c.red then 63 else 0, if 32 ≤ c.green then 63 else 0, if 32 ≤ c.blue then 63 else 0⟩
        else c)) ∧
  (∀ k px py : Nat, k < 1280 * 800 →
    (rasterPosition k).1 < 1280 ∧ (rasterPosition k).2 < 800 ∧
    (px < 1280 → py < 800 → (rasterPosition k = (px, py) ↔ k = 1280 * py + px))) ∧
  (∀ s : State,
    (s.panel.state.scanning = false → s.scanPosition = none ∧ ∀ k, s.sentNext k = []) ∧
    (s.panel.state.scanning = true → s.scan.scanned = 1280 * 800 → s.scanPosition = none ∧ ∀ k, s.sentNext k = []) ∧
    (s.panel.state.scanning = true → s.scan.scanned < 1280 * 800 →
      s.scanPosition = some (rasterPosition s.scan.scanned) ∧
      ∀ k, (s.sentNext k).length = min k (1280 * 800 - s.scan.scanned) ∧
        ∀ n px py, n < k → s.scan.scanned + n < 1280 * 800 → rasterPosition (s.scan.scanned + n) = (px, py) →
          (s.sentNext k)[n]? = some (panelOutput s px py)))

/-! ## What every step keeps -/

/-- Every step keeps the frame store's canonical form, every pane inside the store with pane 0 covering it, and the record in
hand inside the store. -/
def Obligations.StepsKeepStoreSound : Prop :=
  ∀ s t : State, StoreSound s → step s = .next t → StoreSound t

/-- Every step keeps the agreement of link state and presence, finished replies and a pending NOTICE only in UP and QUIET,
a frame in assembly only with lock held outside ABSENT and within the buffer, and the receive queue within its limits with
a flow state that fits it. -/
def Obligations.StepsKeepLinkSound : Prop :=
  (∀ s t : State, LinkSound s → step s = .next t → LinkSound t) ∧
  (∀ s t : State, AssemblySound s → step s = .next t → AssemblySound t) ∧
  (∀ s t : State, QueueSound s → step s = .next t → QueueSound t)

/-- Every step keeps the decoder's agreement with the receive queue and the panel. -/
def Obligations.StepsKeepDecoderSound : Prop :=
  ∀ s t : State, DecoderSound s → step s = .next t → DecoderSound t

/-- Every step keeps the agreement of decoder, engine holder, digest work and device power state: each kind of work only
where the rules let it begin. Where it holds, every step also keeps what holds of the clear pass: while it holds the engine, at
least its last pixel is still to be written; the pixels it has written hold index 0; and outside it there is none under way. -/
def Obligations.StepsKeepWorkSound : Prop :=
  (∀ s t : State, WorkSound s → step s = .next t → WorkSound t) ∧
  (∀ s t : State, WorkSound s → ClearSound s → step s = .next t → ClearSound t)

/-- Every step keeps the agreement of the digest unit with the pane table and the reply slots, where the blocks' work and the
decoder agree as StepsKeepWorkSound and StepsKeepDecoderSound say. -/
def Obligations.StepsKeepDigestSound : Prop :=
  ∀ s t : State, WorkSound s → DecoderSound s → DigestSound s → step s = .next t → DigestSound t

/-- Every step keeps what holds of panel and view, and, where the blocks' work agrees, a panel in DOZE and WAKING is OFF or on
its way there with no START pending. Where the panel scans on through a step with no frame end, the scan only goes forward,
and the active view, the modes in force and the backlight's actual level stay as they are: they are the same for every
position of one frame. -/
def Obligations.StepsKeepPanelSound : Prop :=
  (∀ s t : State, PanelSound s → step s = .next t → PanelSound t) ∧
  (∀ s t : State, WorkSound s → DozingPanel s → step s = .next t → DozingPanel t) ∧
  (∀ s t : State, PanelSound s → step s = .next t →
    s.panel.state.scanning = true → t.panel.state.scanning = true → t.scan.frameCounter = s.scan.frameCounter →
    s.scan.scanned ≤ t.scan.scanned ∧ t.scan.active = s.scan.active ∧ t.panel.display = s.panel.display ∧
    t.panel.area = s.panel.area ∧ t.panel.idleMode = s.panel.idleMode ∧ t.panel.actual = s.panel.actual)

/-- Every step keeps the colour tables in range, and every shaded entry outside the recompute set what the shade arithmetic
gives for the tables as they stand. -/
def Obligations.StepsKeepColourSound : Prop :=
  ∀ s t : State, ColourSound s → step s = .next t → ColourSound t

/-- Every step keeps at most 32 key events and 10 held keys, each held once and accepted as pressed, and every counter from 0
to 65535. -/
def Obligations.StepsKeepKeysAndCounters : Prop :=
  (∀ s t : State, KeysSound s → step s = .next t → KeysSound t) ∧
  (∀ s t : State, CountersSound s → step s = .next t → CountersSound t)

/-- The state after a hardware reset meets every invariant. -/
def Obligations.ResetIsSound : Prop :=
  StoreSound State.reset ∧ LinkSound State.reset ∧ AssemblySound State.reset ∧ QueueSound State.reset ∧
    DecoderSound State.reset ∧ WorkSound State.reset ∧ ClearSound State.reset ∧ DigestSound State.reset ∧
    PanelSound State.reset ∧
    DozingPanel State.reset ∧ ColourSound State.reset ∧ KeysSound State.reset ∧ CountersSound State.reset
end

