-- ==== Sys2Proof/Laws/Memory.lean ====
section
/-! SUPPORT. The laws of the frame store's list: read after write, and the canonical form. -/

namespace Sys2Proof.Machine

/-- No entry below `lo` is listed in a canonical list that begins at `lo`. -/
theorem readCell_below {m : List Host.Cell} {lo a : Nat} (h : Memory.wfFrom lo m = true) (ha : a < lo) :
    readCell m a = unlistedIndex := by
  induction m generalizing lo with
  | nil => rfl
  | cons c rest ih =>
    obtain ⟨b, w⟩ := c
    simp only [Memory.wfFrom, Bool.and_eq_true, decide_eq_true_eq] at h
    have hne : a ≠ b := by omega
    simp only [readCell, if_neg hne]
    exact ih h.2 (by omega)

theorem Memory.wfFrom_mono {m : List Host.Cell} {lo lo' : Nat} (h : Memory.wfFrom lo m = true) (hl : lo' ≤ lo) :
    Memory.wfFrom lo' m = true := by
  cases m with
  | nil => rfl
  | cons c rest =>
    obtain ⟨b, w⟩ := c
    simp only [Memory.wfFrom, Bool.and_eq_true, decide_eq_true_eq] at h ⊢
    exact ⟨⟨by omega, h.1.2⟩, h.2⟩

/-- A read after a write to the store. -/
theorem readCell_writeCell {m : List Host.Cell} {lo : Nat} (h : Memory.wfFrom lo m = true) (a b : Nat) (v : Byte) :
    readCell (writeCell m a v) b = if b = a then v else readCell m b := by
  induction m generalizing lo with
  | nil =>
    by_cases hv : v = unlistedIndex
    · simp [writeCell, hv, readCell]
    · simp [writeCell, hv, readCell]
  | cons c rest ih =>
    obtain ⟨k, w⟩ := c
    simp only [Memory.wfFrom, Bool.and_eq_true, decide_eq_true_eq] at h
    obtain ⟨⟨h1, h2⟩, h3⟩ := h
    simp only [writeCell]
    by_cases hak : a < k
    · simp only [if_pos hak]
      by_cases hv : v = unlistedIndex
      · simp only [if_pos hv]
        by_cases hb : b = a
        · subst hb
          have hne : b ≠ k := by omega
          simp only [readCell, if_neg hne, if_true, hv]
          exact readCell_below h3 (by omega)
        · simp [hb]
      · simp only [if_neg hv, readCell]
    · simp only [if_neg hak]
      by_cases hk : a = k
      · subst hk
        simp only [if_true]
        by_cases hv : v = unlistedIndex
        · simp only [if_pos hv]
          by_cases hb : b = a
          · subst hb
            simp only [if_true, hv]
            exact readCell_below h3 (by omega)
          · simp [readCell, hb]
        · simp only [if_neg hv, readCell]
          by_cases hb : b = a <;> simp [hb]
      · simp only [if_neg hk, readCell]
        by_cases hb : b = k
        · subst hb
          have : ¬ b = a := fun e => hk e.symm
          simp [this]
        · simp only [if_neg hb]
          exact ih h3

/-- A write keeps the canonical form. -/
theorem Memory.wfFrom_writeCell {m : List Host.Cell} {lo a : Nat} (h : Memory.wfFrom lo m = true) (ha : lo ≤ a) (v : Byte) :
    Memory.wfFrom lo (writeCell m a v) = true := by
  induction m generalizing lo with
  | nil =>
    by_cases hv : v = unlistedIndex
    · simp [writeCell, hv, Memory.wfFrom]
    · simp [writeCell, hv, Memory.wfFrom, ha]
  | cons c rest ih =>
    obtain ⟨k, w⟩ := c
    have h0 := h
    simp only [Memory.wfFrom, Bool.and_eq_true, decide_eq_true_eq] at h
    obtain ⟨⟨h1, h2⟩, h3⟩ := h
    simp only [writeCell]
    by_cases hak : a < k
    · simp only [if_pos hak]
      by_cases hv : v = unlistedIndex
      · simp only [if_pos hv]; exact h0
      · simp only [if_neg hv, Memory.wfFrom, Bool.and_eq_true, decide_eq_true_eq]
        exact ⟨⟨ha, hv⟩, ⟨by omega, h2⟩, h3⟩
    · simp only [if_neg hak]
      by_cases hk : a = k
      · subst hk
        simp only [if_true]
        by_cases hv : v = unlistedIndex
        · simp only [if_pos hv]; exact Memory.wfFrom_mono h3 (by omega)
        · simp only [if_neg hv, Memory.wfFrom, Bool.and_eq_true, decide_eq_true_eq]
          exact ⟨⟨h1, hv⟩, h3⟩
      · simp only [if_neg hk, Memory.wfFrom, Bool.and_eq_true, decide_eq_true_eq]
        exact ⟨⟨h1, h2⟩, ih h3 (by omega)⟩

/-- A read after addresses are cleared. -/
theorem readCell_clearCells (m : List Host.Cell) (lo hi a : Nat) :
    readCell (clearCells m lo hi) a = if lo ≤ a ∧ a < hi then unlistedIndex else readCell m a := by
  induction m with
  | nil => simp [clearCells, readCell]
  | cons c rest ih =>
    obtain ⟨b, w⟩ := c
    have hc : clearCells ((b, w) :: rest) lo hi =
        if b < lo ∨ hi ≤ b then (b, w) :: clearCells rest lo hi else clearCells rest lo hi := by
      simp [clearCells, List.filter_cons]
    rw [hc]
    by_cases hab : a = b
    · subst hab
      split
      · next h => simp only [readCell, if_true, if_neg (show ¬ (lo ≤ a ∧ a < hi) by omega)]
      · next h => rw [ih, if_pos (by omega), if_pos (by omega)]
    · split <;> simp only [readCell, if_neg hab, ih]

/-- Clearing keeps the canonical form. -/
theorem Memory.wfFrom_clearCells {m : List Host.Cell} {lo : Nat} (h : Memory.wfFrom lo m = true) (a b : Nat) :
    Memory.wfFrom lo (clearCells m a b) = true := by
  induction m generalizing lo with
  | nil => rfl
  | cons c rest ih =>
    obtain ⟨k, w⟩ := c
    simp only [Memory.wfFrom, Bool.and_eq_true, decide_eq_true_eq] at h
    have hr := ih h.2
    simp only [clearCells, List.filter_cons] at hr ⊢
    split
    · simp only [Memory.wfFrom, Bool.and_eq_true, decide_eq_true_eq]
      exact ⟨h.1, hr⟩
    · exact Memory.wfFrom_mono hr (by omega)

theorem Memory.wf_clearCells {m : List Host.Cell} (h : Memory.wf m = true) (a b : Nat) :
    Memory.wf (clearCells m a b) = true := Memory.wfFrom_clearCells h a b

/-- Every memory operation keeps the canonical form: a pixel is written by `writeCell`, and the clear pass clears. -/
theorem Memory.wf_writeCell {m : List Host.Cell} (h : Memory.wf m = true) (a : Nat) (v : Byte) :
    Memory.wf (writeCell m a v) = true :=
  Memory.wfFrom_writeCell h (Nat.zero_le a) v

theorem State.pixel_writePixel {s : State} (h : Memory.wf s.store = true) (x y x' y' : Nat) (v : Byte) :
    (s.writePixel x y v).pixel x' y' = if pixelAddress x' y' = pixelAddress x y then v else s.pixel x' y' :=
  readCell_writeCell h _ _ _

/-- Two pixels of the store have one address only if they are one pixel. -/
theorem pixelAddress_inj {x y x' y' : Nat} (hx : x < 1280) (hx' : x' < 1280) (h : pixelAddress x y = pixelAddress x' y') :
    x = x' ∧ y = y' := by
  unfold pixelAddress at h
  omega

/-- A store in canonical form is determined by what its addresses read as. -/
theorem readCell_ext {m m' : List Host.Cell} {lo : Nat} (h : Memory.wfFrom lo m = true) (h' : Memory.wfFrom lo m' = true)
    (heq : ∀ a, readCell m a = readCell m' a) : m = m' := by
  induction m generalizing lo m' with
  | nil =>
    cases m' with
    | nil => rfl
    | cons c rest =>
      obtain ⟨b, w⟩ := c
      simp only [Memory.wfFrom, Bool.and_eq_true, decide_eq_true_eq] at h'
      have := heq b
      simp only [readCell, if_true] at this
      exact absurd this.symm h'.1.2
  | cons c rest ih =>
    obtain ⟨b, w⟩ := c
    cases m' with
    | nil =>
      simp only [Memory.wfFrom, Bool.and_eq_true, decide_eq_true_eq] at h
      have := heq b
      simp only [readCell, if_true] at this
      exact absurd this h.1.2
    | cons c' rest' =>
      obtain ⟨b', w'⟩ := c'
      simp only [Memory.wfFrom, Bool.and_eq_true, decide_eq_true_eq] at h h'
      obtain ⟨⟨h1, h2⟩, h3⟩ := h
      obtain ⟨⟨h1', h2'⟩, h3'⟩ := h'
      have hb : b = b' := by
        rcases Nat.lt_trichotomy b b' with hlt | he | hgt
        · have := heq b
          simp only [readCell, if_true, if_neg (Nat.ne_of_lt hlt)] at this
          rw [readCell_below h3' (by omega)] at this
          exact absurd this h2
        · exact he
        · have := heq b'
          simp only [readCell, if_true, if_neg (Nat.ne_of_lt hgt)] at this
          rw [readCell_below h3 (by omega)] at this
          exact absurd this.symm h2'
      subst hb
      have hw : w = w' := by
        have := heq b
        simpa [readCell] using this
      subst hw
      have : rest = rest' := by
        apply ih h3 h3'
        intro a
        by_cases hab : a = b
        · subst hab
          rw [readCell_below h3 (by omega), readCell_below h3' (by omega)]
        · have := heq a
          simpa [readCell, hab] using this
      rw [this]

end Sys2Proof.Machine
end

