-- ==== Sys2Proof/Laws/State.lean ====
section
/-! SUPPORT. One lemma for each field that a named update leaves alone, each true by rfl. -/

namespace Sys2Proof.Machine

variable (s : State)

@[simp] theorem State.count_resetLine (c : Counter) (k : Nat) : (s.count c k).resetLine = s.resetLine := rfl
@[simp] theorem State.count_link (c : Counter) (k : Nat) : (s.count c k).link = s.link := rfl
@[simp] theorem State.count_rxq (c : Counter) (k : Nat) : (s.count c k).rxq = s.rxq := rfl
@[simp] theorem State.count_up (c : Counter) (k : Nat) : (s.count c k).up = s.up := rfl
@[simp] theorem State.count_dec (c : Counter) (k : Nat) : (s.count c k).dec = s.dec := rfl
@[simp] theorem State.count_store (c : Counter) (k : Nat) : (s.count c k).store = s.store := rfl
@[simp] theorem State.count_panes (c : Counter) (k : Nat) : (s.count c k).panes = s.panes := rfl
@[simp] theorem State.count_engine (c : Counter) (k : Nat) : (s.count c k).engine = s.engine := rfl
@[simp] theorem State.count_digest (c : Counter) (k : Nat) : (s.count c k).digest = s.digest := rfl
@[simp] theorem State.count_colour (c : Counter) (k : Nat) : (s.count c k).colour = s.colour := rfl
@[simp] theorem State.count_scan (c : Counter) (k : Nat) : (s.count c k).scan = s.scan := rfl
@[simp] theorem State.count_panel (c : Counter) (k : Nat) : (s.count c k).panel = s.panel := rfl
@[simp] theorem State.count_keys (c : Counter) (k : Nat) : (s.count c k).keys = s.keys := rfl
@[simp] theorem State.count_keyq (c : Counter) (k : Nat) : (s.count c k).keyq = s.keyq := rfl
@[simp] theorem State.count_power (c : Counter) (k : Nat) : (s.count c k).power = s.power := rfl
@[simp] theorem State.count_turn (c : Counter) (k : Nat) : (s.count c k).turn = s.turn := rfl
@[simp] theorem State.count_pending (c : Counter) (k : Nat) : (s.count c k).pending = s.pending := rfl

@[simp] theorem State.setFlag_resetLine (f : Flag) : (s.setFlag f).resetLine = s.resetLine := rfl
@[simp] theorem State.setFlag_link (f : Flag) : (s.setFlag f).link = s.link := rfl
@[simp] theorem State.setFlag_rxq (f : Flag) : (s.setFlag f).rxq = s.rxq := rfl
@[simp] theorem State.setFlag_up (f : Flag) : (s.setFlag f).up = s.up := rfl
@[simp] theorem State.setFlag_dec (f : Flag) : (s.setFlag f).dec = s.dec := rfl
@[simp] theorem State.setFlag_store (f : Flag) : (s.setFlag f).store = s.store := rfl
@[simp] theorem State.setFlag_panes (f : Flag) : (s.setFlag f).panes = s.panes := rfl
@[simp] theorem State.setFlag_engine (f : Flag) : (s.setFlag f).engine = s.engine := rfl
@[simp] theorem State.setFlag_digest (f : Flag) : (s.setFlag f).digest = s.digest := rfl
@[simp] theorem State.setFlag_colour (f : Flag) : (s.setFlag f).colour = s.colour := rfl
@[simp] theorem State.setFlag_scan (f : Flag) : (s.setFlag f).scan = s.scan := rfl
@[simp] theorem State.setFlag_panel (f : Flag) : (s.setFlag f).panel = s.panel := rfl
@[simp] theorem State.setFlag_keys (f : Flag) : (s.setFlag f).keys = s.keys := rfl
@[simp] theorem State.setFlag_keyq (f : Flag) : (s.setFlag f).keyq = s.keyq := rfl
@[simp] theorem State.setFlag_power (f : Flag) : (s.setFlag f).power = s.power := rfl
@[simp] theorem State.setFlag_turn (f : Flag) : (s.setFlag f).turn = s.turn := rfl
@[simp] theorem State.setFlag_pending (f : Flag) : (s.setFlag f).pending = s.pending := rfl

@[simp] theorem State.noticeAtResume_resetLine : (s.noticeAtResume).resetLine = s.resetLine := rfl
@[simp] theorem State.noticeAtResume_link : (s.noticeAtResume).link = s.link := rfl
@[simp] theorem State.noticeAtResume_rxq : (s.noticeAtResume).rxq = s.rxq := rfl
@[simp] theorem State.noticeAtResume_up : (s.noticeAtResume).up = s.up := rfl
@[simp] theorem State.noticeAtResume_dec : (s.noticeAtResume).dec = s.dec := rfl
@[simp] theorem State.noticeAtResume_store : (s.noticeAtResume).store = s.store := rfl
@[simp] theorem State.noticeAtResume_panes : (s.noticeAtResume).panes = s.panes := rfl
@[simp] theorem State.noticeAtResume_engine : (s.noticeAtResume).engine = s.engine := rfl
@[simp] theorem State.noticeAtResume_digest : (s.noticeAtResume).digest = s.digest := rfl
@[simp] theorem State.noticeAtResume_colour : (s.noticeAtResume).colour = s.colour := rfl
@[simp] theorem State.noticeAtResume_scan : (s.noticeAtResume).scan = s.scan := rfl
@[simp] theorem State.noticeAtResume_panel : (s.noticeAtResume).panel = s.panel := rfl
@[simp] theorem State.noticeAtResume_keys : (s.noticeAtResume).keys = s.keys := rfl
@[simp] theorem State.noticeAtResume_keyq : (s.noticeAtResume).keyq = s.keyq := rfl
@[simp] theorem State.noticeAtResume_power : (s.noticeAtResume).power = s.power := rfl
@[simp] theorem State.noticeAtResume_turn : (s.noticeAtResume).turn = s.turn := rfl
@[simp] theorem State.noticeAtResume_pending : (s.noticeAtResume).pending = s.pending := rfl

@[simp] theorem State.dropNotice_resetLine : (s.dropNotice).resetLine = s.resetLine := rfl
@[simp] theorem State.dropNotice_link : (s.dropNotice).link = s.link := rfl
@[simp] theorem State.dropNotice_rxq : (s.dropNotice).rxq = s.rxq := rfl
@[simp] theorem State.dropNotice_up : (s.dropNotice).up = s.up := rfl
@[simp] theorem State.dropNotice_dec : (s.dropNotice).dec = s.dec := rfl
@[simp] theorem State.dropNotice_store : (s.dropNotice).store = s.store := rfl
@[simp] theorem State.dropNotice_panes : (s.dropNotice).panes = s.panes := rfl
@[simp] theorem State.dropNotice_engine : (s.dropNotice).engine = s.engine := rfl
@[simp] theorem State.dropNotice_digest : (s.dropNotice).digest = s.digest := rfl
@[simp] theorem State.dropNotice_colour : (s.dropNotice).colour = s.colour := rfl
@[simp] theorem State.dropNotice_scan : (s.dropNotice).scan = s.scan := rfl
@[simp] theorem State.dropNotice_panel : (s.dropNotice).panel = s.panel := rfl
@[simp] theorem State.dropNotice_keys : (s.dropNotice).keys = s.keys := rfl
@[simp] theorem State.dropNotice_keyq : (s.dropNotice).keyq = s.keyq := rfl
@[simp] theorem State.dropNotice_power : (s.dropNotice).power = s.power := rfl
@[simp] theorem State.dropNotice_turn : (s.dropNotice).turn = s.turn := rfl
@[simp] theorem State.dropNotice_pending : (s.dropNotice).pending = s.pending := rfl

@[simp] theorem State.clearSummary_resetLine : (s.clearSummary).resetLine = s.resetLine := rfl
@[simp] theorem State.clearSummary_link : (s.clearSummary).link = s.link := rfl
@[simp] theorem State.clearSummary_rxq : (s.clearSummary).rxq = s.rxq := rfl
@[simp] theorem State.clearSummary_up : (s.clearSummary).up = s.up := rfl
@[simp] theorem State.clearSummary_dec : (s.clearSummary).dec = s.dec := rfl
@[simp] theorem State.clearSummary_store : (s.clearSummary).store = s.store := rfl
@[simp] theorem State.clearSummary_panes : (s.clearSummary).panes = s.panes := rfl
@[simp] theorem State.clearSummary_engine : (s.clearSummary).engine = s.engine := rfl
@[simp] theorem State.clearSummary_digest : (s.clearSummary).digest = s.digest := rfl
@[simp] theorem State.clearSummary_colour : (s.clearSummary).colour = s.colour := rfl
@[simp] theorem State.clearSummary_scan : (s.clearSummary).scan = s.scan := rfl
@[simp] theorem State.clearSummary_panel : (s.clearSummary).panel = s.panel := rfl
@[simp] theorem State.clearSummary_keys : (s.clearSummary).keys = s.keys := rfl
@[simp] theorem State.clearSummary_keyq : (s.clearSummary).keyq = s.keyq := rfl
@[simp] theorem State.clearSummary_power : (s.clearSummary).power = s.power := rfl
@[simp] theorem State.clearSummary_turn : (s.clearSummary).turn = s.turn := rfl
@[simp] theorem State.clearSummary_pending : (s.clearSummary).pending = s.pending := rfl

@[simp] theorem State.zeroCounters_resetLine : (s.zeroCounters).resetLine = s.resetLine := rfl
@[simp] theorem State.zeroCounters_link : (s.zeroCounters).link = s.link := rfl
@[simp] theorem State.zeroCounters_rxq : (s.zeroCounters).rxq = s.rxq := rfl
@[simp] theorem State.zeroCounters_up : (s.zeroCounters).up = s.up := rfl
@[simp] theorem State.zeroCounters_dec : (s.zeroCounters).dec = s.dec := rfl
@[simp] theorem State.zeroCounters_store : (s.zeroCounters).store = s.store := rfl
@[simp] theorem State.zeroCounters_panes : (s.zeroCounters).panes = s.panes := rfl
@[simp] theorem State.zeroCounters_engine : (s.zeroCounters).engine = s.engine := rfl
@[simp] theorem State.zeroCounters_digest : (s.zeroCounters).digest = s.digest := rfl
@[simp] theorem State.zeroCounters_colour : (s.zeroCounters).colour = s.colour := rfl
@[simp] theorem State.zeroCounters_scan : (s.zeroCounters).scan = s.scan := rfl
@[simp] theorem State.zeroCounters_panel : (s.zeroCounters).panel = s.panel := rfl
@[simp] theorem State.zeroCounters_keys : (s.zeroCounters).keys = s.keys := rfl
@[simp] theorem State.zeroCounters_keyq : (s.zeroCounters).keyq = s.keyq := rfl
@[simp] theorem State.zeroCounters_power : (s.zeroCounters).power = s.power := rfl
@[simp] theorem State.zeroCounters_turn : (s.zeroCounters).turn = s.turn := rfl
@[simp] theorem State.zeroCounters_pending : (s.zeroCounters).pending = s.pending := rfl

@[simp] theorem State.softResetStatus_resetLine : (s.softResetStatus).resetLine = s.resetLine := rfl
@[simp] theorem State.softResetStatus_link : (s.softResetStatus).link = s.link := rfl
@[simp] theorem State.softResetStatus_rxq : (s.softResetStatus).rxq = s.rxq := rfl
@[simp] theorem State.softResetStatus_up : (s.softResetStatus).up = s.up := rfl
@[simp] theorem State.softResetStatus_dec : (s.softResetStatus).dec = s.dec := rfl
@[simp] theorem State.softResetStatus_store : (s.softResetStatus).store = s.store := rfl
@[simp] theorem State.softResetStatus_panes : (s.softResetStatus).panes = s.panes := rfl
@[simp] theorem State.softResetStatus_engine : (s.softResetStatus).engine = s.engine := rfl
@[simp] theorem State.softResetStatus_digest : (s.softResetStatus).digest = s.digest := rfl
@[simp] theorem State.softResetStatus_colour : (s.softResetStatus).colour = s.colour := rfl
@[simp] theorem State.softResetStatus_scan : (s.softResetStatus).scan = s.scan := rfl
@[simp] theorem State.softResetStatus_panel : (s.softResetStatus).panel = s.panel := rfl
@[simp] theorem State.softResetStatus_keys : (s.softResetStatus).keys = s.keys := rfl
@[simp] theorem State.softResetStatus_keyq : (s.softResetStatus).keyq = s.keyq := rfl
@[simp] theorem State.softResetStatus_power : (s.softResetStatus).power = s.power := rfl
@[simp] theorem State.softResetStatus_turn : (s.softResetStatus).turn = s.turn := rfl
@[simp] theorem State.softResetStatus_pending : (s.softResetStatus).pending = s.pending := rfl

@[simp] theorem State.setFlow_resetLine (f : Flow) : (s.setFlow f).resetLine = s.resetLine := rfl
@[simp] theorem State.setFlow_link (f : Flow) : (s.setFlow f).link = s.link := rfl
@[simp] theorem State.setFlow_dec (f : Flow) : (s.setFlow f).dec = s.dec := rfl
@[simp] theorem State.setFlow_store (f : Flow) : (s.setFlow f).store = s.store := rfl
@[simp] theorem State.setFlow_panes (f : Flow) : (s.setFlow f).panes = s.panes := rfl
@[simp] theorem State.setFlow_engine (f : Flow) : (s.setFlow f).engine = s.engine := rfl
@[simp] theorem State.setFlow_digest (f : Flow) : (s.setFlow f).digest = s.digest := rfl
@[simp] theorem State.setFlow_colour (f : Flow) : (s.setFlow f).colour = s.colour := rfl
@[simp] theorem State.setFlow_scan (f : Flow) : (s.setFlow f).scan = s.scan := rfl
@[simp] theorem State.setFlow_panel (f : Flow) : (s.setFlow f).panel = s.panel := rfl
@[simp] theorem State.setFlow_keys (f : Flow) : (s.setFlow f).keys = s.keys := rfl
@[simp] theorem State.setFlow_keyq (f : Flow) : (s.setFlow f).keyq = s.keyq := rfl
@[simp] theorem State.setFlow_power (f : Flow) : (s.setFlow f).power = s.power := rfl
@[simp] theorem State.setFlow_status (f : Flow) : (s.setFlow f).status = s.status := rfl
@[simp] theorem State.setFlow_turn (f : Flow) : (s.setFlow f).turn = s.turn := rfl
@[simp] theorem State.setFlow_pending (f : Flow) : (s.setFlow f).pending = s.pending := rfl

@[simp] theorem State.removeFrame_resetLine : (s.removeFrame).resetLine = s.resetLine := rfl
@[simp] theorem State.removeFrame_link : (s.removeFrame).link = s.link := rfl
@[simp] theorem State.removeFrame_up : (s.removeFrame).up = s.up := rfl
@[simp] theorem State.removeFrame_dec : (s.removeFrame).dec = s.dec := rfl
@[simp] theorem State.removeFrame_store : (s.removeFrame).store = s.store := rfl
@[simp] theorem State.removeFrame_panes : (s.removeFrame).panes = s.panes := rfl
@[simp] theorem State.removeFrame_engine : (s.removeFrame).engine = s.engine := rfl
@[simp] theorem State.removeFrame_digest : (s.removeFrame).digest = s.digest := rfl
@[simp] theorem State.removeFrame_colour : (s.removeFrame).colour = s.colour := rfl
@[simp] theorem State.removeFrame_scan : (s.removeFrame).scan = s.scan := rfl
@[simp] theorem State.removeFrame_panel : (s.removeFrame).panel = s.panel := rfl
@[simp] theorem State.removeFrame_keys : (s.removeFrame).keys = s.keys := rfl
@[simp] theorem State.removeFrame_keyq : (s.removeFrame).keyq = s.keyq := rfl
@[simp] theorem State.removeFrame_power : (s.removeFrame).power = s.power := rfl
@[simp] theorem State.removeFrame_status : (s.removeFrame).status = s.status := rfl
@[simp] theorem State.removeFrame_turn : (s.removeFrame).turn = s.turn := rfl
@[simp] theorem State.removeFrame_pending : (s.removeFrame).pending = s.pending := rfl

@[simp] theorem State.setDecoder_resetLine (d : DecoderState) : (s.setDecoder d).resetLine = s.resetLine := rfl
@[simp] theorem State.setDecoder_link (d : DecoderState) : (s.setDecoder d).link = s.link := rfl
@[simp] theorem State.setDecoder_rxq (d : DecoderState) : (s.setDecoder d).rxq = s.rxq := rfl
@[simp] theorem State.setDecoder_up (d : DecoderState) : (s.setDecoder d).up = s.up := rfl
@[simp] theorem State.setDecoder_store (d : DecoderState) : (s.setDecoder d).store = s.store := rfl
@[simp] theorem State.setDecoder_panes (d : DecoderState) : (s.setDecoder d).panes = s.panes := rfl
@[simp] theorem State.setDecoder_engine (d : DecoderState) : (s.setDecoder d).engine = s.engine := rfl
@[simp] theorem State.setDecoder_digest (d : DecoderState) : (s.setDecoder d).digest = s.digest := rfl
@[simp] theorem State.setDecoder_colour (d : DecoderState) : (s.setDecoder d).colour = s.colour := rfl
@[simp] theorem State.setDecoder_scan (d : DecoderState) : (s.setDecoder d).scan = s.scan := rfl
@[simp] theorem State.setDecoder_panel (d : DecoderState) : (s.setDecoder d).panel = s.panel := rfl
@[simp] theorem State.setDecoder_keys (d : DecoderState) : (s.setDecoder d).keys = s.keys := rfl
@[simp] theorem State.setDecoder_keyq (d : DecoderState) : (s.setDecoder d).keyq = s.keyq := rfl
@[simp] theorem State.setDecoder_power (d : DecoderState) : (s.setDecoder d).power = s.power := rfl
@[simp] theorem State.setDecoder_status (d : DecoderState) : (s.setDecoder d).status = s.status := rfl
@[simp] theorem State.setDecoder_turn (d : DecoderState) : (s.setDecoder d).turn = s.turn := rfl
@[simp] theorem State.setDecoder_pending (d : DecoderState) : (s.setDecoder d).pending = s.pending := rfl

@[simp] theorem State.setPanelRequest_resetLine (r : PanelRequest) : (s.setPanelRequest r).resetLine = s.resetLine := rfl
@[simp] theorem State.setPanelRequest_link (r : PanelRequest) : (s.setPanelRequest r).link = s.link := rfl
@[simp] theorem State.setPanelRequest_rxq (r : PanelRequest) : (s.setPanelRequest r).rxq = s.rxq := rfl
@[simp] theorem State.setPanelRequest_up (r : PanelRequest) : (s.setPanelRequest r).up = s.up := rfl
@[simp] theorem State.setPanelRequest_dec (r : PanelRequest) : (s.setPanelRequest r).dec = s.dec := rfl
@[simp] theorem State.setPanelRequest_store (r : PanelRequest) : (s.setPanelRequest r).store = s.store := rfl
@[simp] theorem State.setPanelRequest_panes (r : PanelRequest) : (s.setPanelRequest r).panes = s.panes := rfl
@[simp] theorem State.setPanelRequest_engine (r : PanelRequest) : (s.setPanelRequest r).engine = s.engine := rfl
@[simp] theorem State.setPanelRequest_digest (r : PanelRequest) : (s.setPanelRequest r).digest = s.digest := rfl
@[simp] theorem State.setPanelRequest_colour (r : PanelRequest) : (s.setPanelRequest r).colour = s.colour := rfl
@[simp] theorem State.setPanelRequest_scan (r : PanelRequest) : (s.setPanelRequest r).scan = s.scan := rfl
@[simp] theorem State.setPanelRequest_keys (r : PanelRequest) : (s.setPanelRequest r).keys = s.keys := rfl
@[simp] theorem State.setPanelRequest_keyq (r : PanelRequest) : (s.setPanelRequest r).keyq = s.keyq := rfl
@[simp] theorem State.setPanelRequest_power (r : PanelRequest) : (s.setPanelRequest r).power = s.power := rfl
@[simp] theorem State.setPanelRequest_status (r : PanelRequest) : (s.setPanelRequest r).status = s.status := rfl
@[simp] theorem State.setPanelRequest_turn (r : PanelRequest) : (s.setPanelRequest r).turn = s.turn := rfl
@[simp] theorem State.setPanelRequest_pending (r : PanelRequest) : (s.setPanelRequest r).pending = s.pending := rfl

@[simp] theorem State.startPanel_resetLine : (s.startPanel).resetLine = s.resetLine := rfl
@[simp] theorem State.startPanel_link : (s.startPanel).link = s.link := rfl
@[simp] theorem State.startPanel_rxq : (s.startPanel).rxq = s.rxq := rfl
@[simp] theorem State.startPanel_up : (s.startPanel).up = s.up := rfl
@[simp] theorem State.startPanel_dec : (s.startPanel).dec = s.dec := rfl
@[simp] theorem State.startPanel_store : (s.startPanel).store = s.store := rfl
@[simp] theorem State.startPanel_panes : (s.startPanel).panes = s.panes := rfl
@[simp] theorem State.startPanel_engine : (s.startPanel).engine = s.engine := rfl
@[simp] theorem State.startPanel_digest : (s.startPanel).digest = s.digest := rfl
@[simp] theorem State.startPanel_colour : (s.startPanel).colour = s.colour := rfl
@[simp] theorem State.startPanel_scan : (s.startPanel).scan = s.scan := rfl
@[simp] theorem State.startPanel_keys : (s.startPanel).keys = s.keys := rfl
@[simp] theorem State.startPanel_keyq : (s.startPanel).keyq = s.keyq := rfl
@[simp] theorem State.startPanel_power : (s.startPanel).power = s.power := rfl
@[simp] theorem State.startPanel_status : (s.startPanel).status = s.status := rfl
@[simp] theorem State.startPanel_turn : (s.startPanel).turn = s.turn := rfl
@[simp] theorem State.startPanel_pending : (s.startPanel).pending = s.pending := rfl

@[simp] theorem State.setSlot_resetLine (n : Nat) (v : Slot) : (s.setSlot n v).resetLine = s.resetLine := rfl
@[simp] theorem State.setSlot_link (n : Nat) (v : Slot) : (s.setSlot n v).link = s.link := rfl
@[simp] theorem State.setSlot_rxq (n : Nat) (v : Slot) : (s.setSlot n v).rxq = s.rxq := rfl
@[simp] theorem State.setSlot_up (n : Nat) (v : Slot) : (s.setSlot n v).up = s.up := rfl
@[simp] theorem State.setSlot_store (n : Nat) (v : Slot) : (s.setSlot n v).store = s.store := rfl
@[simp] theorem State.setSlot_panes (n : Nat) (v : Slot) : (s.setSlot n v).panes = s.panes := rfl
@[simp] theorem State.setSlot_engine (n : Nat) (v : Slot) : (s.setSlot n v).engine = s.engine := rfl
@[simp] theorem State.setSlot_digest (n : Nat) (v : Slot) : (s.setSlot n v).digest = s.digest := rfl
@[simp] theorem State.setSlot_colour (n : Nat) (v : Slot) : (s.setSlot n v).colour = s.colour := rfl
@[simp] theorem State.setSlot_scan (n : Nat) (v : Slot) : (s.setSlot n v).scan = s.scan := rfl
@[simp] theorem State.setSlot_panel (n : Nat) (v : Slot) : (s.setSlot n v).panel = s.panel := rfl
@[simp] theorem State.setSlot_keys (n : Nat) (v : Slot) : (s.setSlot n v).keys = s.keys := rfl
@[simp] theorem State.setSlot_keyq (n : Nat) (v : Slot) : (s.setSlot n v).keyq = s.keyq := rfl
@[simp] theorem State.setSlot_power (n : Nat) (v : Slot) : (s.setSlot n v).power = s.power := rfl
@[simp] theorem State.setSlot_status (n : Nat) (v : Slot) : (s.setSlot n v).status = s.status := rfl
@[simp] theorem State.setSlot_turn (n : Nat) (v : Slot) : (s.setSlot n v).turn = s.turn := rfl
@[simp] theorem State.setSlot_pending (n : Nat) (v : Slot) : (s.setSlot n v).pending = s.pending := rfl

@[simp] theorem State.startFrame_resetLine (k : UpKind) (p : List Byte) : (s.startFrame k p).resetLine = s.resetLine := rfl
@[simp] theorem State.startFrame_link (k : UpKind) (p : List Byte) : (s.startFrame k p).link = s.link := rfl
@[simp] theorem State.startFrame_rxq (k : UpKind) (p : List Byte) : (s.startFrame k p).rxq = s.rxq := rfl
@[simp] theorem State.startFrame_dec (k : UpKind) (p : List Byte) : (s.startFrame k p).dec = s.dec := rfl
@[simp] theorem State.startFrame_store (k : UpKind) (p : List Byte) : (s.startFrame k p).store = s.store := rfl
@[simp] theorem State.startFrame_panes (k : UpKind) (p : List Byte) : (s.startFrame k p).panes = s.panes := rfl
@[simp] theorem State.startFrame_engine (k : UpKind) (p : List Byte) : (s.startFrame k p).engine = s.engine := rfl
@[simp] theorem State.startFrame_digest (k : UpKind) (p : List Byte) : (s.startFrame k p).digest = s.digest := rfl
@[simp] theorem State.startFrame_colour (k : UpKind) (p : List Byte) : (s.startFrame k p).colour = s.colour := rfl
@[simp] theorem State.startFrame_scan (k : UpKind) (p : List Byte) : (s.startFrame k p).scan = s.scan := rfl
@[simp] theorem State.startFrame_panel (k : UpKind) (p : List Byte) : (s.startFrame k p).panel = s.panel := rfl
@[simp] theorem State.startFrame_keys (k : UpKind) (p : List Byte) : (s.startFrame k p).keys = s.keys := rfl
@[simp] theorem State.startFrame_keyq (k : UpKind) (p : List Byte) : (s.startFrame k p).keyq = s.keyq := rfl
@[simp] theorem State.startFrame_power (k : UpKind) (p : List Byte) : (s.startFrame k p).power = s.power := rfl
@[simp] theorem State.startFrame_status (k : UpKind) (p : List Byte) : (s.startFrame k p).status = s.status := rfl
@[simp] theorem State.startFrame_turn (k : UpKind) (p : List Byte) : (s.startFrame k p).turn = s.turn := rfl
@[simp] theorem State.startFrame_pending (k : UpKind) (p : List Byte) : (s.startFrame k p).pending = s.pending := rfl

@[simp] theorem State.setWork_resetLine (w : DigestWork) : (s.setWork w).resetLine = s.resetLine := rfl
@[simp] theorem State.setWork_link (w : DigestWork) : (s.setWork w).link = s.link := rfl
@[simp] theorem State.setWork_rxq (w : DigestWork) : (s.setWork w).rxq = s.rxq := rfl
@[simp] theorem State.setWork_up (w : DigestWork) : (s.setWork w).up = s.up := rfl
@[simp] theorem State.setWork_dec (w : DigestWork) : (s.setWork w).dec = s.dec := rfl
@[simp] theorem State.setWork_store (w : DigestWork) : (s.setWork w).store = s.store := rfl
@[simp] theorem State.setWork_panes (w : DigestWork) : (s.setWork w).panes = s.panes := rfl
@[simp] theorem State.setWork_engine (w : DigestWork) : (s.setWork w).engine = s.engine := rfl
@[simp] theorem State.setWork_colour (w : DigestWork) : (s.setWork w).colour = s.colour := rfl
@[simp] theorem State.setWork_scan (w : DigestWork) : (s.setWork w).scan = s.scan := rfl
@[simp] theorem State.setWork_panel (w : DigestWork) : (s.setWork w).panel = s.panel := rfl
@[simp] theorem State.setWork_keys (w : DigestWork) : (s.setWork w).keys = s.keys := rfl
@[simp] theorem State.setWork_keyq (w : DigestWork) : (s.setWork w).keyq = s.keyq := rfl
@[simp] theorem State.setWork_power (w : DigestWork) : (s.setWork w).power = s.power := rfl
@[simp] theorem State.setWork_status (w : DigestWork) : (s.setWork w).status = s.status := rfl
@[simp] theorem State.setWork_turn (w : DigestWork) : (s.setWork w).turn = s.turn := rfl
@[simp] theorem State.setWork_pending (w : DigestWork) : (s.setWork w).pending = s.pending := rfl

@[simp] theorem State.modifyPane_resetLine (n : Nat) (f : Pane → Pane) : (s.modifyPane n f).resetLine = s.resetLine := rfl
@[simp] theorem State.modifyPane_link (n : Nat) (f : Pane → Pane) : (s.modifyPane n f).link = s.link := rfl
@[simp] theorem State.modifyPane_rxq (n : Nat) (f : Pane → Pane) : (s.modifyPane n f).rxq = s.rxq := rfl
@[simp] theorem State.modifyPane_up (n : Nat) (f : Pane → Pane) : (s.modifyPane n f).up = s.up := rfl
@[simp] theorem State.modifyPane_dec (n : Nat) (f : Pane → Pane) : (s.modifyPane n f).dec = s.dec := rfl
@[simp] theorem State.modifyPane_store (n : Nat) (f : Pane → Pane) : (s.modifyPane n f).store = s.store := rfl
@[simp] theorem State.modifyPane_engine (n : Nat) (f : Pane → Pane) : (s.modifyPane n f).engine = s.engine := rfl
@[simp] theorem State.modifyPane_digest (n : Nat) (f : Pane → Pane) : (s.modifyPane n f).digest = s.digest := rfl
@[simp] theorem State.modifyPane_colour (n : Nat) (f : Pane → Pane) : (s.modifyPane n f).colour = s.colour := rfl
@[simp] theorem State.modifyPane_scan (n : Nat) (f : Pane → Pane) : (s.modifyPane n f).scan = s.scan := rfl
@[simp] theorem State.modifyPane_panel (n : Nat) (f : Pane → Pane) : (s.modifyPane n f).panel = s.panel := rfl
@[simp] theorem State.modifyPane_keys (n : Nat) (f : Pane → Pane) : (s.modifyPane n f).keys = s.keys := rfl
@[simp] theorem State.modifyPane_keyq (n : Nat) (f : Pane → Pane) : (s.modifyPane n f).keyq = s.keyq := rfl
@[simp] theorem State.modifyPane_power (n : Nat) (f : Pane → Pane) : (s.modifyPane n f).power = s.power := rfl
@[simp] theorem State.modifyPane_status (n : Nat) (f : Pane → Pane) : (s.modifyPane n f).status = s.status := rfl
@[simp] theorem State.modifyPane_turn (n : Nat) (f : Pane → Pane) : (s.modifyPane n f).turn = s.turn := rfl
@[simp] theorem State.modifyPane_pending (n : Nat) (f : Pane → Pane) : (s.modifyPane n f).pending = s.pending := rfl

@[simp] theorem State.setDigestState_resetLine (n : Nat) (d : DigestState) : (s.setDigestState n d).resetLine = s.resetLine := rfl
@[simp] theorem State.setDigestState_link (n : Nat) (d : DigestState) : (s.setDigestState n d).link = s.link := rfl
@[simp] theorem State.setDigestState_rxq (n : Nat) (d : DigestState) : (s.setDigestState n d).rxq = s.rxq := rfl
@[simp] theorem State.setDigestState_up (n : Nat) (d : DigestState) : (s.setDigestState n d).up = s.up := rfl
@[simp] theorem State.setDigestState_dec (n : Nat) (d : DigestState) : (s.setDigestState n d).dec = s.dec := rfl
@[simp] theorem State.setDigestState_store (n : Nat) (d : DigestState) : (s.setDigestState n d).store = s.store := rfl
@[simp] theorem State.setDigestState_engine (n : Nat) (d : DigestState) : (s.setDigestState n d).engine = s.engine := rfl
@[simp] theorem State.setDigestState_digest (n : Nat) (d : DigestState) : (s.setDigestState n d).digest = s.digest := rfl
@[simp] theorem State.setDigestState_colour (n : Nat) (d : DigestState) : (s.setDigestState n d).colour = s.colour := rfl
@[simp] theorem State.setDigestState_scan (n : Nat) (d : DigestState) : (s.setDigestState n d).scan = s.scan := rfl
@[simp] theorem State.setDigestState_panel (n : Nat) (d : DigestState) : (s.setDigestState n d).panel = s.panel := rfl
@[simp] theorem State.setDigestState_keys (n : Nat) (d : DigestState) : (s.setDigestState n d).keys = s.keys := rfl
@[simp] theorem State.setDigestState_keyq (n : Nat) (d : DigestState) : (s.setDigestState n d).keyq = s.keyq := rfl
@[simp] theorem State.setDigestState_power (n : Nat) (d : DigestState) : (s.setDigestState n d).power = s.power := rfl
@[simp] theorem State.setDigestState_status (n : Nat) (d : DigestState) : (s.setDigestState n d).status = s.status := rfl
@[simp] theorem State.setDigestState_turn (n : Nat) (d : DigestState) : (s.setDigestState n d).turn = s.turn := rfl
@[simp] theorem State.setDigestState_pending (n : Nat) (d : DigestState) : (s.setDigestState n d).pending = s.pending := rfl

@[simp] theorem State.dropDozeDigests_resetLine : (s.dropDozeDigests).resetLine = s.resetLine := rfl
@[simp] theorem State.dropDozeDigests_link : (s.dropDozeDigests).link = s.link := rfl
@[simp] theorem State.dropDozeDigests_rxq : (s.dropDozeDigests).rxq = s.rxq := rfl
@[simp] theorem State.dropDozeDigests_up : (s.dropDozeDigests).up = s.up := rfl
@[simp] theorem State.dropDozeDigests_dec : (s.dropDozeDigests).dec = s.dec := rfl
@[simp] theorem State.dropDozeDigests_store : (s.dropDozeDigests).store = s.store := rfl
@[simp] theorem State.dropDozeDigests_engine : (s.dropDozeDigests).engine = s.engine := rfl
@[simp] theorem State.dropDozeDigests_digest : (s.dropDozeDigests).digest = s.digest := rfl
@[simp] theorem State.dropDozeDigests_colour : (s.dropDozeDigests).colour = s.colour := rfl
@[simp] theorem State.dropDozeDigests_scan : (s.dropDozeDigests).scan = s.scan := rfl
@[simp] theorem State.dropDozeDigests_panel : (s.dropDozeDigests).panel = s.panel := rfl
@[simp] theorem State.dropDozeDigests_keys : (s.dropDozeDigests).keys = s.keys := rfl
@[simp] theorem State.dropDozeDigests_keyq : (s.dropDozeDigests).keyq = s.keyq := rfl
@[simp] theorem State.dropDozeDigests_power : (s.dropDozeDigests).power = s.power := rfl
@[simp] theorem State.dropDozeDigests_status : (s.dropDozeDigests).status = s.status := rfl
@[simp] theorem State.dropDozeDigests_turn : (s.dropDozeDigests).turn = s.turn := rfl
@[simp] theorem State.dropDozeDigests_pending : (s.dropDozeDigests).pending = s.pending := rfl

@[simp] theorem State.writePixel_resetLine (x y : Nat) (v : Byte) : (s.writePixel x y v).resetLine = s.resetLine := rfl
@[simp] theorem State.writePixel_link (x y : Nat) (v : Byte) : (s.writePixel x y v).link = s.link := rfl
@[simp] theorem State.writePixel_rxq (x y : Nat) (v : Byte) : (s.writePixel x y v).rxq = s.rxq := rfl
@[simp] theorem State.writePixel_up (x y : Nat) (v : Byte) : (s.writePixel x y v).up = s.up := rfl
@[simp] theorem State.writePixel_dec (x y : Nat) (v : Byte) : (s.writePixel x y v).dec = s.dec := rfl
@[simp] theorem State.writePixel_panes (x y : Nat) (v : Byte) : (s.writePixel x y v).panes = s.panes := rfl
@[simp] theorem State.writePixel_engine (x y : Nat) (v : Byte) : (s.writePixel x y v).engine = s.engine := rfl
@[simp] theorem State.writePixel_digest (x y : Nat) (v : Byte) : (s.writePixel x y v).digest = s.digest := rfl
@[simp] theorem State.writePixel_colour (x y : Nat) (v : Byte) : (s.writePixel x y v).colour = s.colour := rfl
@[simp] theorem State.writePixel_scan (x y : Nat) (v : Byte) : (s.writePixel x y v).scan = s.scan := rfl
@[simp] theorem State.writePixel_panel (x y : Nat) (v : Byte) : (s.writePixel x y v).panel = s.panel := rfl
@[simp] theorem State.writePixel_keys (x y : Nat) (v : Byte) : (s.writePixel x y v).keys = s.keys := rfl
@[simp] theorem State.writePixel_keyq (x y : Nat) (v : Byte) : (s.writePixel x y v).keyq = s.keyq := rfl
@[simp] theorem State.writePixel_power (x y : Nat) (v : Byte) : (s.writePixel x y v).power = s.power := rfl
@[simp] theorem State.writePixel_status (x y : Nat) (v : Byte) : (s.writePixel x y v).status = s.status := rfl
@[simp] theorem State.writePixel_turn (x y : Nat) (v : Byte) : (s.writePixel x y v).turn = s.turn := rfl
@[simp] theorem State.writePixel_pending (x y : Nat) (v : Byte) : (s.writePixel x y v).pending = s.pending := rfl

@[simp] theorem State.setEngine_resetLine (h : Holder) (j : Option Job) : (s.setEngine h j).resetLine = s.resetLine := rfl
@[simp] theorem State.setEngine_link (h : Holder) (j : Option Job) : (s.setEngine h j).link = s.link := rfl
@[simp] theorem State.setEngine_rxq (h : Holder) (j : Option Job) : (s.setEngine h j).rxq = s.rxq := rfl
@[simp] theorem State.setEngine_up (h : Holder) (j : Option Job) : (s.setEngine h j).up = s.up := rfl
@[simp] theorem State.setEngine_dec (h : Holder) (j : Option Job) : (s.setEngine h j).dec = s.dec := rfl
@[simp] theorem State.setEngine_store (h : Holder) (j : Option Job) : (s.setEngine h j).store = s.store := rfl
@[simp] theorem State.setEngine_panes (h : Holder) (j : Option Job) : (s.setEngine h j).panes = s.panes := rfl
@[simp] theorem State.setEngine_digest (h : Holder) (j : Option Job) : (s.setEngine h j).digest = s.digest := rfl
@[simp] theorem State.setEngine_colour (h : Holder) (j : Option Job) : (s.setEngine h j).colour = s.colour := rfl
@[simp] theorem State.setEngine_scan (h : Holder) (j : Option Job) : (s.setEngine h j).scan = s.scan := rfl
@[simp] theorem State.setEngine_panel (h : Holder) (j : Option Job) : (s.setEngine h j).panel = s.panel := rfl
@[simp] theorem State.setEngine_keys (h : Holder) (j : Option Job) : (s.setEngine h j).keys = s.keys := rfl
@[simp] theorem State.setEngine_keyq (h : Holder) (j : Option Job) : (s.setEngine h j).keyq = s.keyq := rfl
@[simp] theorem State.setEngine_power (h : Holder) (j : Option Job) : (s.setEngine h j).power = s.power := rfl
@[simp] theorem State.setEngine_status (h : Holder) (j : Option Job) : (s.setEngine h j).status = s.status := rfl
@[simp] theorem State.setEngine_turn (h : Holder) (j : Option Job) : (s.setEngine h j).turn = s.turn := rfl
@[simp] theorem State.setEngine_pending (h : Holder) (j : Option Job) : (s.setEngine h j).pending = s.pending := rfl

@[simp] theorem State.setDevice_resetLine (d : Device) : (s.setDevice d).resetLine = s.resetLine := rfl
@[simp] theorem State.setDevice_link (d : Device) : (s.setDevice d).link = s.link := rfl
@[simp] theorem State.setDevice_rxq (d : Device) : (s.setDevice d).rxq = s.rxq := rfl
@[simp] theorem State.setDevice_up (d : Device) : (s.setDevice d).up = s.up := rfl
@[simp] theorem State.setDevice_dec (d : Device) : (s.setDevice d).dec = s.dec := rfl
@[simp] theorem State.setDevice_store (d : Device) : (s.setDevice d).store = s.store := rfl
@[simp] theorem State.setDevice_panes (d : Device) : (s.setDevice d).panes = s.panes := rfl
@[simp] theorem State.setDevice_engine (d : Device) : (s.setDevice d).engine = s.engine := rfl
@[simp] theorem State.setDevice_digest (d : Device) : (s.setDevice d).digest = s.digest := rfl
@[simp] theorem State.setDevice_colour (d : Device) : (s.setDevice d).colour = s.colour := rfl
@[simp] theorem State.setDevice_scan (d : Device) : (s.setDevice d).scan = s.scan := rfl
@[simp] theorem State.setDevice_panel (d : Device) : (s.setDevice d).panel = s.panel := rfl
@[simp] theorem State.setDevice_keys (d : Device) : (s.setDevice d).keys = s.keys := rfl
@[simp] theorem State.setDevice_keyq (d : Device) : (s.setDevice d).keyq = s.keyq := rfl
@[simp] theorem State.setDevice_status (d : Device) : (s.setDevice d).status = s.status := rfl
@[simp] theorem State.setDevice_turn (d : Device) : (s.setDevice d).turn = s.turn := rfl
@[simp] theorem State.setDevice_pending (d : Device) : (s.setDevice d).pending = s.pending := rfl

@[simp] theorem State.startOutage_resetLine : (s.startOutage).resetLine = s.resetLine := rfl
@[simp] theorem State.startOutage_link : (s.startOutage).link = s.link := rfl
@[simp] theorem State.startOutage_rxq : (s.startOutage).rxq = s.rxq := rfl
@[simp] theorem State.startOutage_up : (s.startOutage).up = s.up := rfl
@[simp] theorem State.startOutage_dec : (s.startOutage).dec = s.dec := rfl
@[simp] theorem State.startOutage_store : (s.startOutage).store = s.store := rfl
@[simp] theorem State.startOutage_panes : (s.startOutage).panes = s.panes := rfl
@[simp] theorem State.startOutage_engine : (s.startOutage).engine = s.engine := rfl
@[simp] theorem State.startOutage_digest : (s.startOutage).digest = s.digest := rfl
@[simp] theorem State.startOutage_colour : (s.startOutage).colour = s.colour := rfl
@[simp] theorem State.startOutage_scan : (s.startOutage).scan = s.scan := rfl
@[simp] theorem State.startOutage_panel : (s.startOutage).panel = s.panel := rfl
@[simp] theorem State.startOutage_keys : (s.startOutage).keys = s.keys := rfl
@[simp] theorem State.startOutage_keyq : (s.startOutage).keyq = s.keyq := rfl
@[simp] theorem State.startOutage_status : (s.startOutage).status = s.status := rfl
@[simp] theorem State.startOutage_turn : (s.startOutage).turn = s.turn := rfl
@[simp] theorem State.startOutage_pending : (s.startOutage).pending = s.pending := rfl

@[simp] theorem State.endOutage_resetLine : (s.endOutage).resetLine = s.resetLine := rfl
@[simp] theorem State.endOutage_link : (s.endOutage).link = s.link := rfl
@[simp] theorem State.endOutage_rxq : (s.endOutage).rxq = s.rxq := rfl
@[simp] theorem State.endOutage_up : (s.endOutage).up = s.up := rfl
@[simp] theorem State.endOutage_dec : (s.endOutage).dec = s.dec := rfl
@[simp] theorem State.endOutage_store : (s.endOutage).store = s.store := rfl
@[simp] theorem State.endOutage_panes : (s.endOutage).panes = s.panes := rfl
@[simp] theorem State.endOutage_engine : (s.endOutage).engine = s.engine := rfl
@[simp] theorem State.endOutage_digest : (s.endOutage).digest = s.digest := rfl
@[simp] theorem State.endOutage_colour : (s.endOutage).colour = s.colour := rfl
@[simp] theorem State.endOutage_scan : (s.endOutage).scan = s.scan := rfl
@[simp] theorem State.endOutage_panel : (s.endOutage).panel = s.panel := rfl
@[simp] theorem State.endOutage_keys : (s.endOutage).keys = s.keys := rfl
@[simp] theorem State.endOutage_keyq : (s.endOutage).keyq = s.keyq := rfl
@[simp] theorem State.endOutage_status : (s.endOutage).status = s.status := rfl
@[simp] theorem State.endOutage_turn : (s.endOutage).turn = s.turn := rfl
@[simp] theorem State.endOutage_pending : (s.endOutage).pending = s.pending := rfl

@[simp] theorem State.setLink_resetLine (l : LinkState) : (s.setLink l).resetLine = s.resetLine := rfl
@[simp] theorem State.setLink_rxq (l : LinkState) : (s.setLink l).rxq = s.rxq := rfl
@[simp] theorem State.setLink_up (l : LinkState) : (s.setLink l).up = s.up := rfl
@[simp] theorem State.setLink_dec (l : LinkState) : (s.setLink l).dec = s.dec := rfl
@[simp] theorem State.setLink_store (l : LinkState) : (s.setLink l).store = s.store := rfl
@[simp] theorem State.setLink_panes (l : LinkState) : (s.setLink l).panes = s.panes := rfl
@[simp] theorem State.setLink_engine (l : LinkState) : (s.setLink l).engine = s.engine := rfl
@[simp] theorem State.setLink_digest (l : LinkState) : (s.setLink l).digest = s.digest := rfl
@[simp] theorem State.setLink_colour (l : LinkState) : (s.setLink l).colour = s.colour := rfl
@[simp] theorem State.setLink_scan (l : LinkState) : (s.setLink l).scan = s.scan := rfl
@[simp] theorem State.setLink_panel (l : LinkState) : (s.setLink l).panel = s.panel := rfl
@[simp] theorem State.setLink_keys (l : LinkState) : (s.setLink l).keys = s.keys := rfl
@[simp] theorem State.setLink_keyq (l : LinkState) : (s.setLink l).keyq = s.keyq := rfl
@[simp] theorem State.setLink_power (l : LinkState) : (s.setLink l).power = s.power := rfl
@[simp] theorem State.setLink_status (l : LinkState) : (s.setLink l).status = s.status := rfl
@[simp] theorem State.setLink_turn (l : LinkState) : (s.setLink l).turn = s.turn := rfl
@[simp] theorem State.setLink_pending (l : LinkState) : (s.setLink l).pending = s.pending := rfl

@[simp] theorem State.setAssembly_resetLine (a : Assembly) : (s.setAssembly a).resetLine = s.resetLine := rfl
@[simp] theorem State.setAssembly_rxq (a : Assembly) : (s.setAssembly a).rxq = s.rxq := rfl
@[simp] theorem State.setAssembly_up (a : Assembly) : (s.setAssembly a).up = s.up := rfl
@[simp] theorem State.setAssembly_dec (a : Assembly) : (s.setAssembly a).dec = s.dec := rfl
@[simp] theorem State.setAssembly_store (a : Assembly) : (s.setAssembly a).store = s.store := rfl
@[simp] theorem State.setAssembly_panes (a : Assembly) : (s.setAssembly a).panes = s.panes := rfl
@[simp] theorem State.setAssembly_engine (a : Assembly) : (s.setAssembly a).engine = s.engine := rfl
@[simp] theorem State.setAssembly_digest (a : Assembly) : (s.setAssembly a).digest = s.digest := rfl
@[simp] theorem State.setAssembly_colour (a : Assembly) : (s.setAssembly a).colour = s.colour := rfl
@[simp] theorem State.setAssembly_scan (a : Assembly) : (s.setAssembly a).scan = s.scan := rfl
@[simp] theorem State.setAssembly_panel (a : Assembly) : (s.setAssembly a).panel = s.panel := rfl
@[simp] theorem State.setAssembly_keys (a : Assembly) : (s.setAssembly a).keys = s.keys := rfl
@[simp] theorem State.setAssembly_keyq (a : Assembly) : (s.setAssembly a).keyq = s.keyq := rfl
@[simp] theorem State.setAssembly_power (a : Assembly) : (s.setAssembly a).power = s.power := rfl
@[simp] theorem State.setAssembly_status (a : Assembly) : (s.setAssembly a).status = s.status := rfl
@[simp] theorem State.setAssembly_turn (a : Assembly) : (s.setAssembly a).turn = s.turn := rfl
@[simp] theorem State.setAssembly_pending (a : Assembly) : (s.setAssembly a).pending = s.pending := rfl

@[simp] theorem State.setHeld_resetLine (h : List HeldKey) : (s.setHeld h).resetLine = s.resetLine := rfl
@[simp] theorem State.setHeld_link (h : List HeldKey) : (s.setHeld h).link = s.link := rfl
@[simp] theorem State.setHeld_rxq (h : List HeldKey) : (s.setHeld h).rxq = s.rxq := rfl
@[simp] theorem State.setHeld_up (h : List HeldKey) : (s.setHeld h).up = s.up := rfl
@[simp] theorem State.setHeld_dec (h : List HeldKey) : (s.setHeld h).dec = s.dec := rfl
@[simp] theorem State.setHeld_store (h : List HeldKey) : (s.setHeld h).store = s.store := rfl
@[simp] theorem State.setHeld_panes (h : List HeldKey) : (s.setHeld h).panes = s.panes := rfl
@[simp] theorem State.setHeld_engine (h : List HeldKey) : (s.setHeld h).engine = s.engine := rfl
@[simp] theorem State.setHeld_digest (h : List HeldKey) : (s.setHeld h).digest = s.digest := rfl
@[simp] theorem State.setHeld_colour (h : List HeldKey) : (s.setHeld h).colour = s.colour := rfl
@[simp] theorem State.setHeld_scan (h : List HeldKey) : (s.setHeld h).scan = s.scan := rfl
@[simp] theorem State.setHeld_panel (h : List HeldKey) : (s.setHeld h).panel = s.panel := rfl
@[simp] theorem State.setHeld_keyq (h : List HeldKey) : (s.setHeld h).keyq = s.keyq := rfl
@[simp] theorem State.setHeld_power (h : List HeldKey) : (s.setHeld h).power = s.power := rfl
@[simp] theorem State.setHeld_status (h : List HeldKey) : (s.setHeld h).status = s.status := rfl
@[simp] theorem State.setHeld_turn (h : List HeldKey) : (s.setHeld h).turn = s.turn := rfl
@[simp] theorem State.setHeld_pending (h : List HeldKey) : (s.setHeld h).pending = s.pending := rfl

@[simp] theorem State.toggleLamp_resetLine (n : Nat) : (s.toggleLamp n).resetLine = s.resetLine := rfl
@[simp] theorem State.toggleLamp_link (n : Nat) : (s.toggleLamp n).link = s.link := rfl
@[simp] theorem State.toggleLamp_rxq (n : Nat) : (s.toggleLamp n).rxq = s.rxq := rfl
@[simp] theorem State.toggleLamp_up (n : Nat) : (s.toggleLamp n).up = s.up := rfl
@[simp] theorem State.toggleLamp_dec (n : Nat) : (s.toggleLamp n).dec = s.dec := rfl
@[simp] theorem State.toggleLamp_store (n : Nat) : (s.toggleLamp n).store = s.store := rfl
@[simp] theorem State.toggleLamp_panes (n : Nat) : (s.toggleLamp n).panes = s.panes := rfl
@[simp] theorem State.toggleLamp_engine (n : Nat) : (s.toggleLamp n).engine = s.engine := rfl
@[simp] theorem State.toggleLamp_digest (n : Nat) : (s.toggleLamp n).digest = s.digest := rfl
@[simp] theorem State.toggleLamp_colour (n : Nat) : (s.toggleLamp n).colour = s.colour := rfl
@[simp] theorem State.toggleLamp_scan (n : Nat) : (s.toggleLamp n).scan = s.scan := rfl
@[simp] theorem State.toggleLamp_panel (n : Nat) : (s.toggleLamp n).panel = s.panel := rfl
@[simp] theorem State.toggleLamp_keyq (n : Nat) : (s.toggleLamp n).keyq = s.keyq := rfl
@[simp] theorem State.toggleLamp_power (n : Nat) : (s.toggleLamp n).power = s.power := rfl
@[simp] theorem State.toggleLamp_status (n : Nat) : (s.toggleLamp n).status = s.status := rfl
@[simp] theorem State.toggleLamp_turn (n : Nat) : (s.toggleLamp n).turn = s.turn := rfl
@[simp] theorem State.toggleLamp_pending (n : Nat) : (s.toggleLamp n).pending = s.pending := rfl

@[simp] theorem State.setClip_resetLine (n : Nat) : (s.setClip n).resetLine = s.resetLine := rfl
@[simp] theorem State.setClip_link (n : Nat) : (s.setClip n).link = s.link := rfl
@[simp] theorem State.setClip_rxq (n : Nat) : (s.setClip n).rxq = s.rxq := rfl
@[simp] theorem State.setClip_up (n : Nat) : (s.setClip n).up = s.up := rfl
@[simp] theorem State.setClip_dec (n : Nat) : (s.setClip n).dec = s.dec := rfl
@[simp] theorem State.setClip_store (n : Nat) : (s.setClip n).store = s.store := rfl
@[simp] theorem State.setClip_panes (n : Nat) : (s.setClip n).panes = s.panes := rfl
@[simp] theorem State.setClip_engine (n : Nat) : (s.setClip n).engine = s.engine := rfl
@[simp] theorem State.setClip_digest (n : Nat) : (s.setClip n).digest = s.digest := rfl
@[simp] theorem State.setClip_scan (n : Nat) : (s.setClip n).scan = s.scan := rfl
@[simp] theorem State.setClip_panel (n : Nat) : (s.setClip n).panel = s.panel := rfl
@[simp] theorem State.setClip_keys (n : Nat) : (s.setClip n).keys = s.keys := rfl
@[simp] theorem State.setClip_keyq (n : Nat) : (s.setClip n).keyq = s.keyq := rfl
@[simp] theorem State.setClip_power (n : Nat) : (s.setClip n).power = s.power := rfl
@[simp] theorem State.setClip_turn (n : Nat) : (s.setClip n).turn = s.turn := rfl
@[simp] theorem State.setClip_pending (n : Nat) : (s.setClip n).pending = s.pending := rfl

@[simp] theorem State.timersRun_resetLine : (s.timersRun).resetLine = s.resetLine := rfl
@[simp] theorem State.timersRun_rxq : (s.timersRun).rxq = s.rxq := rfl
@[simp] theorem State.timersRun_up : (s.timersRun).up = s.up := rfl
@[simp] theorem State.timersRun_dec : (s.timersRun).dec = s.dec := rfl
@[simp] theorem State.timersRun_store : (s.timersRun).store = s.store := rfl
@[simp] theorem State.timersRun_panes : (s.timersRun).panes = s.panes := rfl
@[simp] theorem State.timersRun_engine : (s.timersRun).engine = s.engine := rfl
@[simp] theorem State.timersRun_digest : (s.timersRun).digest = s.digest := rfl
@[simp] theorem State.timersRun_colour : (s.timersRun).colour = s.colour := rfl
@[simp] theorem State.timersRun_scan : (s.timersRun).scan = s.scan := rfl
@[simp] theorem State.timersRun_keyq : (s.timersRun).keyq = s.keyq := rfl
@[simp] theorem State.timersRun_turn : (s.timersRun).turn = s.turn := rfl
@[simp] theorem State.timersRun_pending : (s.timersRun).pending = s.pending := rfl

@[simp] theorem State.queueSteps_resetLine (cs : List Instr) : (s.queueSteps cs).resetLine = s.resetLine := rfl
@[simp] theorem State.queueSteps_link (cs : List Instr) : (s.queueSteps cs).link = s.link := rfl
@[simp] theorem State.queueSteps_rxq (cs : List Instr) : (s.queueSteps cs).rxq = s.rxq := rfl
@[simp] theorem State.queueSteps_up (cs : List Instr) : (s.queueSteps cs).up = s.up := rfl
@[simp] theorem State.queueSteps_dec (cs : List Instr) : (s.queueSteps cs).dec = s.dec := rfl
@[simp] theorem State.queueSteps_store (cs : List Instr) : (s.queueSteps cs).store = s.store := rfl
@[simp] theorem State.queueSteps_panes (cs : List Instr) : (s.queueSteps cs).panes = s.panes := rfl
@[simp] theorem State.queueSteps_engine (cs : List Instr) : (s.queueSteps cs).engine = s.engine := rfl
@[simp] theorem State.queueSteps_digest (cs : List Instr) : (s.queueSteps cs).digest = s.digest := rfl
@[simp] theorem State.queueSteps_colour (cs : List Instr) : (s.queueSteps cs).colour = s.colour := rfl
@[simp] theorem State.queueSteps_scan (cs : List Instr) : (s.queueSteps cs).scan = s.scan := rfl
@[simp] theorem State.queueSteps_panel (cs : List Instr) : (s.queueSteps cs).panel = s.panel := rfl
@[simp] theorem State.queueSteps_keys (cs : List Instr) : (s.queueSteps cs).keys = s.keys := rfl
@[simp] theorem State.queueSteps_keyq (cs : List Instr) : (s.queueSteps cs).keyq = s.keyq := rfl
@[simp] theorem State.queueSteps_power (cs : List Instr) : (s.queueSteps cs).power = s.power := rfl
@[simp] theorem State.queueSteps_status (cs : List Instr) : (s.queueSteps cs).status = s.status := rfl

@[simp] theorem Scanout.scanOn_active (v : Scanout) (k : Nat) : (v.scanOn k).active = v.active := rfl
@[simp] theorem Scanout.scanOn_pendingView (v : Scanout) (k : Nat) : (v.scanOn k).pendingView = v.pendingView := rfl
@[simp] theorem Scanout.scanOn_scanned (v : Scanout) (k : Nat) :
    (v.scanOn k).scanned = min (panelPositions - 1) (v.scanned + k) := rfl
@[simp] theorem Scanout.scanOn_frameCounter (v : Scanout) (k : Nat) : (v.scanOn k).frameCounter = v.frameCounter := rfl

@[simp] theorem Scanout.frameOver_active (v : Scanout) : (v.frameOver).active = v.pendingView.getD v.active := rfl
@[simp] theorem Scanout.frameOver_pendingView (v : Scanout) : (v.frameOver).pendingView = none := rfl
@[simp] theorem Scanout.frameOver_scanned (v : Scanout) : (v.frameOver).scanned = 0 := rfl
@[simp] theorem Scanout.frameOver_frameCounter (v : Scanout) : (v.frameOver).frameCounter = v.frameCounter := rfl

@[simp] theorem Scanout.frameEnd_active (v : Scanout) : (v.frameEnd).active = v.pendingView.getD v.active := rfl
@[simp] theorem Scanout.frameEnd_pendingView (v : Scanout) : (v.frameEnd).pendingView = none := rfl
@[simp] theorem Scanout.frameEnd_scanned (v : Scanout) : (v.frameEnd).scanned = 0 := rfl
@[simp] theorem Scanout.frameEnd_frameCounter (v : Scanout) : (v.frameEnd).frameCounter = v.frameCounter + 1 := rfl

end Sys2Proof.Machine
end

