-- ==== Sys2Proof/Laws/Table.lean ====
section
/-! SUPPORT. The laws of tables: what an entry reads as after each operation. -/

namespace Sys2Proof.Machine

variable {α β : Type} {n : Nat}

theorem Table.get_eq_getElem [Inhabited α] (t : Table α n) {i : Nat} (h : i < n) :
    t.get i = t.toList[i]'(by rw [t.size_eq]; exact h) := by
  simp [Table.get, List.getD_eq_getElem?_getD, t.size_eq, h]

theorem Table.get_beyond [Inhabited α] (t : Table α n) {i : Nat} (h : n ≤ i) : t.get i = default := by
  simp [Table.get, List.getD_eq_getElem?_getD, t.size_eq, h]

@[simp] theorem Table.get_ofFn [Inhabited α] (f : Nat → α) {i : Nat} (h : i < n) : (Table.ofFn n f).get i = f i := by
  simp [Table.get, Table.ofFn, List.getD_eq_getElem?_getD, h]

theorem Table.get_ofFn_ite [Inhabited α] (f : Nat → α) (i : Nat) :
    (Table.ofFn n f).get i = if i < n then f i else default := by
  split
  · exact Table.get_ofFn f ‹_›
  · exact Table.get_beyond _ (by omega)

@[simp] theorem Table.get_set_self [Inhabited α] (t : Table α n) {i : Nat} (v : α) (h : i < n) : (t.set i v).get i = v := by
  simp [Table.get, Table.set, List.getD_eq_getElem?_getD, t.size_eq, h]

theorem Table.get_set_ne [Inhabited α] (t : Table α n) {i j : Nat} (v : α) (h : i ≠ j) : (t.set i v).get j = t.get j := by
  simp [Table.get, Table.set, List.getD_eq_getElem?_getD, List.getElem?_set_ne h]

theorem Table.get_set [Inhabited α] (t : Table α n) (i j : Nat) (v : α) :
    (t.set i v).get j = if i = j ∧ i < n then v else t.get j := by
  by_cases hij : i = j
  · subst hij
    by_cases h : i < n
    · simp [h]
    · rw [Table.get_beyond _ (by omega), Table.get_beyond _ (by omega)]; simp [h]
  · simp [hij, Table.get_set_ne t v hij]

theorem Table.get_modify [Inhabited α] (t : Table α n) (i j : Nat) (f : α → α) :
    (t.modify i f).get j = if i = j ∧ i < n then f (t.get j) else t.get j := by
  unfold Table.modify
  rw [Table.get_set]
  split
  · rename_i h; rw [h.1]
  · rfl

@[simp] theorem Table.get_modify_self [Inhabited α] (t : Table α n) {i : Nat} (f : α → α) (h : i < n) :
    (t.modify i f).get i = f (t.get i) := by simp [Table.get_modify, h]

theorem Table.get_modify_ne [Inhabited α] (t : Table α n) {i j : Nat} (f : α → α) (h : i ≠ j) :
    (t.modify i f).get j = t.get j := by simp [Table.get_modify, h]

@[simp] theorem Table.get_mapIdx [Inhabited α] [Inhabited β] (t : Table α n) (f : Nat → α → β) {i : Nat} (h : i < n) :
    (t.mapIdx f).get i = f i (t.get i) := by simp [Table.mapIdx, h]

theorem Table.get_setRun [Inhabited α] (t : Table α n) (start : Nat) (vs : List α) {i : Nat} (h : i < n) :
    (t.setRun start vs).get i = if start ≤ i then vs.getD (i - start) (t.get i) else t.get i := by
  simp [Table.setRun, h]

theorem Table.ext_get [Inhabited α] {t u : Table α n} (h : ∀ i < n, t.get i = u.get i) : t = u := by
  have hl : t.toList = u.toList := by
    apply List.ext_getElem (by rw [t.size_eq, u.size_eq])
    intro i h1 h2
    have hi : i < n := by rw [t.size_eq] at h1; exact h1
    have := h i hi
    rwa [Table.get_eq_getElem t hi, Table.get_eq_getElem u hi] at this
  cases t; cases u; cases hl; rfl

theorem Table.findFirst_some [Inhabited α] {t : Table α n} {p : α → Bool} {i : Nat} (h : t.findFirst p = some i) :
    i < n ∧ p (t.get i) = true ∧ ∀ j < i, p (t.get j) = false := by
  unfold Table.findFirst at h
  rw [List.find?_range_eq_some] at h
  exact ⟨by simpa using h.2.1, h.1, fun j hj => by simpa using h.2.2 j hj⟩

theorem Table.findFirst_none [Inhabited α] {t : Table α n} {p : α → Bool} :
    t.findFirst p = none ↔ ∀ i < n, p (t.get i) = false := by
  simp [Table.findFirst, List.find?_eq_none]

/-- A later write to the same place is the one that stands. -/
theorem Table.set_set (t : Table α n) (i : Nat) (a b : α) : (t.set i a).set i b = t.set i b := by
  simp [Table.set, List.set_set]

/-- Writing what is already there changes nothing. -/
theorem Table.set_get_same [Inhabited α] (t : Table α n) {i : Nat} {a : α} (h : t.get i = a) :
    t.set i a = t := by
  apply Table.ext_get
  intro j hj
  rw [Table.get_set]
  by_cases e : i = j
  · subst e; simp [hj, h]
  · simp [e]

end Sys2Proof.Machine
end

