-- ==== Sys2Proof/Laws/Frames.lean ====
section
/-! SUPPORT. The frame of each shared operation: every part of the state that it leaves alone, whatever it does to the
rest. simp uses each of them as one rewriting rule for each field. -/

namespace Sys2Proof.Machine

variable (s : State)

@[simp] theorem State.flowAtAdmission_frame :
    (s.flowAtAdmission).resetLine = s.resetLine ∧ (s.flowAtAdmission).link = s.link ∧
    (s.flowAtAdmission).dec = s.dec ∧ (s.flowAtAdmission).store = s.store ∧ (s.flowAtAdmission).panes = s.panes ∧
    (s.flowAtAdmission).engine = s.engine ∧ (s.flowAtAdmission).digest = s.digest ∧
    (s.flowAtAdmission).colour = s.colour ∧ (s.flowAtAdmission).scan = s.scan ∧ (s.flowAtAdmission).panel = s.panel ∧
    (s.flowAtAdmission).keys = s.keys ∧ (s.flowAtAdmission).keyq = s.keyq ∧ (s.flowAtAdmission).power = s.power ∧
    (s.flowAtAdmission).status = s.status ∧ (s.flowAtAdmission).turn = s.turn ∧
    (s.flowAtAdmission).pending = s.pending := by
  unfold State.flowAtAdmission
  (repeat' split) <;> simp

@[simp] theorem State.flowAtRemoval_frame :
    (s.flowAtRemoval).resetLine = s.resetLine ∧ (s.flowAtRemoval).link = s.link ∧ (s.flowAtRemoval).dec = s.dec ∧
    (s.flowAtRemoval).store = s.store ∧ (s.flowAtRemoval).panes = s.panes ∧ (s.flowAtRemoval).engine = s.engine ∧
    (s.flowAtRemoval).digest = s.digest ∧ (s.flowAtRemoval).colour = s.colour ∧ (s.flowAtRemoval).scan = s.scan ∧
    (s.flowAtRemoval).panel = s.panel ∧ (s.flowAtRemoval).keys = s.keys ∧ (s.flowAtRemoval).keyq = s.keyq ∧
    (s.flowAtRemoval).power = s.power ∧ (s.flowAtRemoval).status = s.status ∧ (s.flowAtRemoval).turn = s.turn ∧
    (s.flowAtRemoval).pending = s.pending := by
  unfold State.flowAtRemoval
  (repeat' split) <;> simp

@[simp] theorem State.finishFrame_frame :
    (s.finishFrame).resetLine = s.resetLine ∧ (s.finishFrame).link = s.link ∧ (s.finishFrame).store = s.store ∧
    (s.finishFrame).panes = s.panes ∧ (s.finishFrame).engine = s.engine ∧ (s.finishFrame).digest = s.digest ∧
    (s.finishFrame).colour = s.colour ∧ (s.finishFrame).scan = s.scan ∧ (s.finishFrame).panel = s.panel ∧
    (s.finishFrame).keys = s.keys ∧ (s.finishFrame).keyq = s.keyq ∧ (s.finishFrame).power = s.power ∧
    (s.finishFrame).status = s.status ∧ (s.finishFrame).turn = s.turn ∧ (s.finishFrame).pending = s.pending := by
  simp [State.finishFrame]

@[simp] theorem State.walkFrom_frame (c : Nat) :
    (s.walkFrom c).resetLine = s.resetLine ∧ (s.walkFrom c).link = s.link ∧ (s.walkFrom c).store = s.store ∧
    (s.walkFrom c).panes = s.panes ∧ (s.walkFrom c).engine = s.engine ∧ (s.walkFrom c).digest = s.digest ∧
    (s.walkFrom c).colour = s.colour ∧ (s.walkFrom c).scan = s.scan ∧ (s.walkFrom c).panel = s.panel ∧
    (s.walkFrom c).keys = s.keys ∧ (s.walkFrom c).keyq = s.keyq ∧ (s.walkFrom c).power = s.power ∧
    (s.walkFrom c).status = s.status ∧ (s.walkFrom c).turn = s.turn ∧ (s.walkFrom c).pending = s.pending := by
  unfold State.walkFrom
  (repeat' split) <;> simp

@[simp] theorem State.releaseSync_frame :
    (s.releaseSync).resetLine = s.resetLine ∧ (s.releaseSync).link = s.link ∧ (s.releaseSync).store = s.store ∧
    (s.releaseSync).panes = s.panes ∧ (s.releaseSync).engine = s.engine ∧ (s.releaseSync).digest = s.digest ∧
    (s.releaseSync).colour = s.colour ∧ (s.releaseSync).scan = s.scan ∧ (s.releaseSync).panel = s.panel ∧
    (s.releaseSync).keys = s.keys ∧ (s.releaseSync).keyq = s.keyq ∧ (s.releaseSync).power = s.power ∧
    (s.releaseSync).status = s.status ∧ (s.releaseSync).turn = s.turn ∧ (s.releaseSync).pending = s.pending := by
  unfold State.releaseSync
  (repeat' split) <;> simp

@[simp] theorem State.advance_frame (r : Record) :
    (s.advance r).resetLine = s.resetLine ∧ (s.advance r).link = s.link ∧ (s.advance r).store = s.store ∧
    (s.advance r).panes = s.panes ∧ (s.advance r).engine = s.engine ∧ (s.advance r).digest = s.digest ∧
    (s.advance r).colour = s.colour ∧ (s.advance r).scan = s.scan ∧ (s.advance r).panel = s.panel ∧
    (s.advance r).keys = s.keys ∧ (s.advance r).keyq = s.keyq ∧ (s.advance r).power = s.power ∧
    (s.advance r).status = s.status ∧ (s.advance r).turn = s.turn ∧ (s.advance r).pending = s.pending := by
  unfold State.advance
  (repeat' split) <;> simp

@[simp] theorem State.refuse_frame (k t : Byte) (q : Option Byte) (e : Reason) :
    (s.refuse k t q e).resetLine = s.resetLine ∧ (s.refuse k t q e).link = s.link ∧ (s.refuse k t q e).rxq = s.rxq ∧
    (s.refuse k t q e).up = s.up ∧ (s.refuse k t q e).store = s.store ∧ (s.refuse k t q e).panes = s.panes ∧
    (s.refuse k t q e).engine = s.engine ∧ (s.refuse k t q e).digest = s.digest ∧
    (s.refuse k t q e).colour = s.colour ∧ (s.refuse k t q e).scan = s.scan ∧ (s.refuse k t q e).panel = s.panel ∧
    (s.refuse k t q e).keys = s.keys ∧ (s.refuse k t q e).keyq = s.keyq ∧ (s.refuse k t q e).power = s.power ∧
    (s.refuse k t q e).turn = s.turn ∧ (s.refuse k t q e).pending = s.pending := by
  simp [State.refuse]

@[simp] theorem State.refuseRecord_frame (f : RxFrame) (r : Record) (e : Reason) :
    (s.refuseRecord f r e).resetLine = s.resetLine ∧ (s.refuseRecord f r e).link = s.link ∧
    (s.refuseRecord f r e).rxq = s.rxq ∧ (s.refuseRecord f r e).up = s.up ∧ (s.refuseRecord f r e).store = s.store ∧
    (s.refuseRecord f r e).panes = s.panes ∧ (s.refuseRecord f r e).engine = s.engine ∧
    (s.refuseRecord f r e).digest = s.digest ∧ (s.refuseRecord f r e).colour = s.colour ∧
    (s.refuseRecord f r e).scan = s.scan ∧ (s.refuseRecord f r e).panel = s.panel ∧
    (s.refuseRecord f r e).keys = s.keys ∧ (s.refuseRecord f r e).keyq = s.keyq ∧
    (s.refuseRecord f r e).power = s.power ∧ (s.refuseRecord f r e).turn = s.turn ∧
    (s.refuseRecord f r e).pending = s.pending := by
  simp [State.refuseRecord]

@[simp] theorem State.finishReply_frame (n : Nat) (k t : Byte) (e : ReplyStatus) (b : List Word) :
    (s.finishReply n k t e b).resetLine = s.resetLine ∧ (s.finishReply n k t e b).link = s.link ∧
    (s.finishReply n k t e b).rxq = s.rxq ∧ (s.finishReply n k t e b).up = s.up ∧
    (s.finishReply n k t e b).store = s.store ∧ (s.finishReply n k t e b).panes = s.panes ∧
    (s.finishReply n k t e b).engine = s.engine ∧ (s.finishReply n k t e b).digest = s.digest ∧
    (s.finishReply n k t e b).colour = s.colour ∧ (s.finishReply n k t e b).scan = s.scan ∧
    (s.finishReply n k t e b).panel = s.panel ∧ (s.finishReply n k t e b).keys = s.keys ∧
    (s.finishReply n k t e b).keyq = s.keyq ∧ (s.finishReply n k t e b).power = s.power ∧
    (s.finishReply n k t e b).turn = s.turn ∧ (s.finishReply n k t e b).pending = s.pending := by
  unfold State.finishReply
  (repeat' split) <;> simp

@[simp] theorem State.giveUpUpstream_frame :
    (s.giveUpUpstream).resetLine = s.resetLine ∧ (s.giveUpUpstream).link = s.link ∧ (s.giveUpUpstream).rxq = s.rxq ∧
    (s.giveUpUpstream).up = s.up ∧ (s.giveUpUpstream).store = s.store ∧ (s.giveUpUpstream).panes = s.panes ∧
    (s.giveUpUpstream).engine = s.engine ∧ (s.giveUpUpstream).digest = s.digest ∧
    (s.giveUpUpstream).colour = s.colour ∧ (s.giveUpUpstream).scan = s.scan ∧ (s.giveUpUpstream).panel = s.panel ∧
    (s.giveUpUpstream).keys = s.keys ∧ (s.giveUpUpstream).keyq = s.keyq ∧ (s.giveUpUpstream).power = s.power ∧
    (s.giveUpUpstream).turn = s.turn ∧ (s.giveUpUpstream).pending = s.pending := by
  simp [State.giveUpUpstream]

@[simp] theorem State.examineRequest_frame :
    (s.examineRequest).resetLine = s.resetLine ∧ (s.examineRequest).link = s.link ∧ (s.examineRequest).rxq = s.rxq ∧
    (s.examineRequest).up = s.up ∧ (s.examineRequest).store = s.store ∧ (s.examineRequest).panes = s.panes ∧
    (s.examineRequest).engine = s.engine ∧ (s.examineRequest).colour = s.colour ∧ (s.examineRequest).scan = s.scan ∧
    (s.examineRequest).panel = s.panel ∧ (s.examineRequest).keys = s.keys ∧ (s.examineRequest).keyq = s.keyq ∧
    (s.examineRequest).power = s.power ∧ (s.examineRequest).turn = s.turn ∧
    (s.examineRequest).pending = s.pending := by
  unfold State.examineRequest
  (repeat' split) <;> simp

@[simp] theorem State.digestGoOn_frame :
    (s.digestGoOn).resetLine = s.resetLine ∧ (s.digestGoOn).link = s.link ∧ (s.digestGoOn).rxq = s.rxq ∧
    (s.digestGoOn).up = s.up ∧ (s.digestGoOn).store = s.store ∧ (s.digestGoOn).engine = s.engine ∧
    (s.digestGoOn).colour = s.colour ∧ (s.digestGoOn).scan = s.scan ∧ (s.digestGoOn).panel = s.panel ∧
    (s.digestGoOn).keys = s.keys ∧ (s.digestGoOn).keyq = s.keyq ∧ (s.digestGoOn).power = s.power ∧
    (s.digestGoOn).turn = s.turn ∧ (s.digestGoOn).pending = s.pending := by
  unfold State.digestGoOn
  (repeat' split) <;> simp

@[simp] theorem State.abandonRun_frame :
    (s.abandonRun).resetLine = s.resetLine ∧ (s.abandonRun).link = s.link ∧ (s.abandonRun).rxq = s.rxq ∧
    (s.abandonRun).up = s.up ∧ (s.abandonRun).store = s.store ∧ (s.abandonRun).engine = s.engine ∧
    (s.abandonRun).colour = s.colour ∧ (s.abandonRun).scan = s.scan ∧ (s.abandonRun).panel = s.panel ∧
    (s.abandonRun).keys = s.keys ∧ (s.abandonRun).keyq = s.keyq ∧ (s.abandonRun).power = s.power ∧
    (s.abandonRun).turn = s.turn ∧ (s.abandonRun).pending = s.pending := by
  simp [State.abandonRun]

@[simp] theorem State.touchWhere_frame (hit : Pane → Bool) :
    (s.touchWhere hit).resetLine = s.resetLine ∧ (s.touchWhere hit).link = s.link ∧ (s.touchWhere hit).rxq = s.rxq ∧
    (s.touchWhere hit).up = s.up ∧ (s.touchWhere hit).store = s.store ∧ (s.touchWhere hit).engine = s.engine ∧
    (s.touchWhere hit).colour = s.colour ∧ (s.touchWhere hit).scan = s.scan ∧ (s.touchWhere hit).panel = s.panel ∧
    (s.touchWhere hit).keys = s.keys ∧ (s.touchWhere hit).keyq = s.keyq ∧ (s.touchWhere hit).power = s.power ∧
    (s.touchWhere hit).turn = s.turn ∧ (s.touchWhere hit).pending = s.pending := by
  unfold State.touchWhere
  dsimp only
  (repeat' split) <;> simp

@[simp] theorem State.touch_frame (x y : Nat) :
    (s.touch x y).resetLine = s.resetLine ∧ (s.touch x y).link = s.link ∧ (s.touch x y).rxq = s.rxq ∧
    (s.touch x y).up = s.up ∧ (s.touch x y).store = s.store ∧ (s.touch x y).engine = s.engine ∧
    (s.touch x y).colour = s.colour ∧ (s.touch x y).scan = s.scan ∧ (s.touch x y).panel = s.panel ∧
    (s.touch x y).keys = s.keys ∧ (s.touch x y).keyq = s.keyq ∧ (s.touch x y).power = s.power ∧
    (s.touch x y).turn = s.turn ∧ (s.touch x y).pending = s.pending := by
  simp [State.touch]

/-- What the clear pass leaves alone, and how far it has come. -/
@[simp] theorem State.clearUpTo_frame (hi : Nat) :
    (s.clearUpTo hi).resetLine = s.resetLine ∧ (s.clearUpTo hi).store = clearCells s.store s.engine.cleared hi ∧
    (s.clearUpTo hi).engine = { s.engine with cleared := hi } ∧ (s.clearUpTo hi).link = s.link ∧
    (s.clearUpTo hi).rxq = s.rxq ∧ (s.clearUpTo hi).up = s.up ∧ (s.clearUpTo hi).colour = s.colour ∧
    (s.clearUpTo hi).scan = s.scan ∧ (s.clearUpTo hi).panel = s.panel ∧ (s.clearUpTo hi).keys = s.keys ∧
    (s.clearUpTo hi).keyq = s.keyq ∧ (s.clearUpTo hi).power = s.power ∧ (s.clearUpTo hi).turn = s.turn ∧
    (s.clearUpTo hi).pending = s.pending := by
  simp [State.clearUpTo]

/-- A pixel as the clear pass leaves it on its way to address `hi`. -/
theorem State.pixel_clearUpTo (hi x y : Nat) :
    (s.clearUpTo hi).pixel x y =
      if s.engine.cleared ≤ pixelAddress x y ∧ pixelAddress x y < hi then unlistedIndex else s.pixel x y := by
  simp [State.pixel, readCell_clearCells]

/-- Touches that find no digest VALID or RUNNING change nothing. -/
theorem State.touchWhere_quiet (hit : Pane → Bool)
    (hd : ∀ n < 16, (s.panes.get n).digest.touched = (s.panes.get n).digest) (hr : s.digest.running = none) :
    s.touchWhere hit = s := by
  have hp : s.panes.mapIdx (fun _ p => p.touchedBy hit) = s.panes := by
    refine Table.ext_get fun n hn => ?_
    rw [Table.get_mapIdx _ _ hn]
    unfold Pane.touchedBy
    split
    · rw [hd n hn]
    · rfl
  simp [State.touchWhere, hp, hitsRun, hr]

@[simp] theorem State.paintPixel_frame (j : Job) (o : Nat × Nat) :
    (s.paintPixel j o).resetLine = s.resetLine ∧ (s.paintPixel j o).link = s.link ∧ (s.paintPixel j o).rxq = s.rxq ∧
    (s.paintPixel j o).up = s.up ∧ (s.paintPixel j o).engine = s.engine ∧ (s.paintPixel j o).colour = s.colour ∧
    (s.paintPixel j o).scan = s.scan ∧ (s.paintPixel j o).panel = s.panel ∧ (s.paintPixel j o).keys = s.keys ∧
    (s.paintPixel j o).keyq = s.keyq ∧ (s.paintPixel j o).power = s.power ∧ (s.paintPixel j o).turn = s.turn ∧
    (s.paintPixel j o).pending = s.pending := by
  unfold State.paintPixel
  dsimp only
  (repeat' split) <;> simp

@[simp] theorem State.paint_frame (j : Job) (os : List (Nat × Nat)) :
    (s.paint j os).resetLine = s.resetLine ∧ (s.paint j os).link = s.link ∧ (s.paint j os).rxq = s.rxq ∧
    (s.paint j os).up = s.up ∧ (s.paint j os).engine = s.engine ∧ (s.paint j os).colour = s.colour ∧
    (s.paint j os).scan = s.scan ∧ (s.paint j os).panel = s.panel ∧ (s.paint j os).keys = s.keys ∧
    (s.paint j os).keyq = s.keyq ∧ (s.paint j os).power = s.power ∧ (s.paint j os).turn = s.turn ∧
    (s.paint j os).pending = s.pending := by
  unfold State.paint
  induction os generalizing s with
  | nil => simp
  | cons o os ih => simpa using ih (s.paintPixel j o)

@[simp] theorem State.finishJob_frame (j : Job) :
    (s.finishJob j).resetLine = s.resetLine ∧ (s.finishJob j).link = s.link ∧ (s.finishJob j).rxq = s.rxq ∧
    (s.finishJob j).up = s.up ∧ (s.finishJob j).engine = s.engine ∧ (s.finishJob j).colour = s.colour ∧
    (s.finishJob j).scan = s.scan ∧ (s.finishJob j).panel = s.panel ∧ (s.finishJob j).keys = s.keys ∧
    (s.finishJob j).keyq = s.keyq ∧ (s.finishJob j).power = s.power ∧ (s.finishJob j).turn = s.turn ∧
    (s.finishJob j).pending = s.pending := by
  unfold State.finishJob
  dsimp only
  (repeat' split) <;> simp

@[simp] theorem State.acceptDigestRequest_frame (q : DigestRequest) :
    (s.acceptDigestRequest q).resetLine = s.resetLine ∧ (s.acceptDigestRequest q).link = s.link ∧
    (s.acceptDigestRequest q).rxq = s.rxq ∧ (s.acceptDigestRequest q).up = s.up ∧
    (s.acceptDigestRequest q).store = s.store ∧ (s.acceptDigestRequest q).engine = s.engine ∧
    (s.acceptDigestRequest q).colour = s.colour ∧ (s.acceptDigestRequest q).scan = s.scan ∧
    (s.acceptDigestRequest q).panel = s.panel ∧ (s.acceptDigestRequest q).keys = s.keys ∧
    (s.acceptDigestRequest q).keyq = s.keyq ∧ (s.acceptDigestRequest q).power = s.power ∧
    (s.acceptDigestRequest q).turn = s.turn ∧ (s.acceptDigestRequest q).pending = s.pending := by
  unfold State.acceptDigestRequest
  dsimp only
  (repeat' split) <;> simp

@[simp] theorem State.forgetPane_frame (n : Nat) :
    (s.forgetPane n).resetLine = s.resetLine ∧ (s.forgetPane n).link = s.link ∧ (s.forgetPane n).rxq = s.rxq ∧
    (s.forgetPane n).up = s.up ∧ (s.forgetPane n).store = s.store ∧ (s.forgetPane n).engine = s.engine ∧
    (s.forgetPane n).colour = s.colour ∧ (s.forgetPane n).scan = s.scan ∧ (s.forgetPane n).panel = s.panel ∧
    (s.forgetPane n).keys = s.keys ∧ (s.forgetPane n).keyq = s.keyq ∧ (s.forgetPane n).power = s.power ∧
    (s.forgetPane n).turn = s.turn ∧ (s.forgetPane n).pending = s.pending := by
  unfold State.forgetPane
  dsimp only
  (repeat' split) <;> simp

@[simp] theorem State.softResetDigest_frame :
    (s.softResetDigest).resetLine = s.resetLine ∧ (s.softResetDigest).link = s.link ∧
    (s.softResetDigest).rxq = s.rxq ∧ (s.softResetDigest).up = s.up ∧ (s.softResetDigest).store = s.store ∧
    (s.softResetDigest).panes = s.panes ∧ (s.softResetDigest).engine = s.engine ∧
    (s.softResetDigest).colour = s.colour ∧ (s.softResetDigest).scan = s.scan ∧ (s.softResetDigest).panel = s.panel ∧
    (s.softResetDigest).keys = s.keys ∧ (s.softResetDigest).keyq = s.keyq ∧ (s.softResetDigest).power = s.power ∧
    (s.softResetDigest).status = s.status ∧ (s.softResetDigest).turn = s.turn ∧
    (s.softResetDigest).pending = s.pending := by
  unfold State.softResetDigest
  dsimp only
  (repeat' split) <;> simp

@[simp] theorem State.stopPanel_frame :
    (s.stopPanel).resetLine = s.resetLine ∧ (s.stopPanel).link = s.link ∧ (s.stopPanel).store = s.store ∧
    (s.stopPanel).panes = s.panes ∧ (s.stopPanel).engine = s.engine ∧ (s.stopPanel).digest = s.digest ∧
    (s.stopPanel).colour = s.colour ∧ (s.stopPanel).keys = s.keys ∧ (s.stopPanel).keyq = s.keyq ∧
    (s.stopPanel).power = s.power ∧ (s.stopPanel).status = s.status ∧ (s.stopPanel).turn = s.turn ∧
    (s.stopPanel).pending = s.pending := by
  simp [State.stopPanel]

@[simp] theorem State.requestStart_frame :
    (s.requestStart).resetLine = s.resetLine ∧ (s.requestStart).link = s.link ∧ (s.requestStart).rxq = s.rxq ∧
    (s.requestStart).up = s.up ∧ (s.requestStart).dec = s.dec ∧ (s.requestStart).store = s.store ∧
    (s.requestStart).panes = s.panes ∧ (s.requestStart).engine = s.engine ∧ (s.requestStart).digest = s.digest ∧
    (s.requestStart).colour = s.colour ∧ (s.requestStart).scan = s.scan ∧ (s.requestStart).keys = s.keys ∧
    (s.requestStart).keyq = s.keyq ∧ (s.requestStart).power = s.power ∧ (s.requestStart).status = s.status ∧
    (s.requestStart).turn = s.turn ∧ (s.requestStart).pending = s.pending := by
  unfold State.requestStart
  (repeat' split) <;> simp

@[simp] theorem State.requestStop_frame :
    (s.requestStop).resetLine = s.resetLine ∧ (s.requestStop).link = s.link ∧ (s.requestStop).store = s.store ∧
    (s.requestStop).panes = s.panes ∧ (s.requestStop).engine = s.engine ∧ (s.requestStop).digest = s.digest ∧
    (s.requestStop).colour = s.colour ∧ (s.requestStop).keys = s.keys ∧ (s.requestStop).keyq = s.keyq ∧
    (s.requestStop).power = s.power ∧ (s.requestStop).status = s.status ∧ (s.requestStop).turn = s.turn ∧
    (s.requestStop).pending = s.pending := by
  unfold State.requestStop
  (repeat' split) <;> simp

@[simp] theorem State.reachRunning_frame :
    (s.reachRunning).resetLine = s.resetLine ∧ (s.reachRunning).link = s.link ∧ (s.reachRunning).store = s.store ∧
    (s.reachRunning).panes = s.panes ∧ (s.reachRunning).engine = s.engine ∧ (s.reachRunning).digest = s.digest ∧
    (s.reachRunning).colour = s.colour ∧ (s.reachRunning).keys = s.keys ∧ (s.reachRunning).keyq = s.keyq ∧
    (s.reachRunning).power = s.power ∧ (s.reachRunning).turn = s.turn ∧ (s.reachRunning).pending = s.pending := by
  unfold State.reachRunning
  dsimp only
  (repeat' split) <;> simp

@[simp] theorem State.panelAtFrameEnd_frame :
    (s.panelAtFrameEnd).resetLine = s.resetLine ∧ (s.panelAtFrameEnd).link = s.link ∧
    (s.panelAtFrameEnd).store = s.store ∧ (s.panelAtFrameEnd).panes = s.panes ∧
    (s.panelAtFrameEnd).engine = s.engine ∧ (s.panelAtFrameEnd).digest = s.digest ∧
    (s.panelAtFrameEnd).colour = s.colour ∧ (s.panelAtFrameEnd).keys = s.keys ∧ (s.panelAtFrameEnd).keyq = s.keyq ∧
    (s.panelAtFrameEnd).power = s.power ∧ (s.panelAtFrameEnd).turn = s.turn ∧
    (s.panelAtFrameEnd).pending = s.pending := by
  unfold State.panelAtFrameEnd
  (repeat' split) <;> simp

@[simp] theorem State.setDisplay_frame (m : Display) :
    (s.setDisplay m).resetLine = s.resetLine ∧ (s.setDisplay m).link = s.link ∧ (s.setDisplay m).rxq = s.rxq ∧
    (s.setDisplay m).up = s.up ∧ (s.setDisplay m).dec = s.dec ∧ (s.setDisplay m).store = s.store ∧
    (s.setDisplay m).panes = s.panes ∧ (s.setDisplay m).engine = s.engine ∧ (s.setDisplay m).digest = s.digest ∧
    (s.setDisplay m).colour = s.colour ∧ (s.setDisplay m).scan = s.scan ∧ (s.setDisplay m).keys = s.keys ∧
    (s.setDisplay m).keyq = s.keyq ∧ (s.setDisplay m).power = s.power ∧ (s.setDisplay m).status = s.status ∧
    (s.setDisplay m).turn = s.turn ∧ (s.setDisplay m).pending = s.pending := by
  unfold State.setDisplay
  (repeat' split) <;> simp

@[simp] theorem State.setArea_frame (m : Area) :
    (s.setArea m).resetLine = s.resetLine ∧ (s.setArea m).link = s.link ∧ (s.setArea m).rxq = s.rxq ∧
    (s.setArea m).up = s.up ∧ (s.setArea m).dec = s.dec ∧ (s.setArea m).store = s.store ∧
    (s.setArea m).panes = s.panes ∧ (s.setArea m).engine = s.engine ∧ (s.setArea m).digest = s.digest ∧
    (s.setArea m).colour = s.colour ∧ (s.setArea m).scan = s.scan ∧ (s.setArea m).keys = s.keys ∧
    (s.setArea m).keyq = s.keyq ∧ (s.setArea m).power = s.power ∧ (s.setArea m).status = s.status ∧
    (s.setArea m).turn = s.turn ∧ (s.setArea m).pending = s.pending := by
  unfold State.setArea
  (repeat' split) <;> simp

@[simp] theorem State.setIdle_frame (m : Bool) :
    (s.setIdle m).resetLine = s.resetLine ∧ (s.setIdle m).link = s.link ∧ (s.setIdle m).rxq = s.rxq ∧
    (s.setIdle m).up = s.up ∧ (s.setIdle m).dec = s.dec ∧ (s.setIdle m).store = s.store ∧
    (s.setIdle m).panes = s.panes ∧ (s.setIdle m).engine = s.engine ∧ (s.setIdle m).digest = s.digest ∧
    (s.setIdle m).colour = s.colour ∧ (s.setIdle m).scan = s.scan ∧ (s.setIdle m).keys = s.keys ∧
    (s.setIdle m).keyq = s.keyq ∧ (s.setIdle m).power = s.power ∧ (s.setIdle m).status = s.status ∧
    (s.setIdle m).turn = s.turn ∧ (s.setIdle m).pending = s.pending := by
  unfold State.setIdle
  (repeat' split) <;> simp

@[simp] theorem State.reachOff_frame :
    (s.reachOff).resetLine = s.resetLine ∧ (s.reachOff).link = s.link ∧ (s.reachOff).rxq = s.rxq ∧
    (s.reachOff).up = s.up ∧ (s.reachOff).dec = s.dec ∧ (s.reachOff).store = s.store ∧ (s.reachOff).panes = s.panes ∧
    (s.reachOff).engine = s.engine ∧ (s.reachOff).digest = s.digest ∧ (s.reachOff).colour = s.colour ∧
    (s.reachOff).scan = s.scan ∧ (s.reachOff).keys = s.keys ∧ (s.reachOff).keyq = s.keyq ∧
    (s.reachOff).power = s.power ∧ (s.reachOff).turn = s.turn ∧ (s.reachOff).pending = s.pending := by
  unfold State.reachOff
  dsimp only
  (repeat' split) <;> simp

@[simp] theorem State.noteOutcome_frame (o : DrawOutcome) (k t : Byte) (q : Option Byte) :
    (s.noteOutcome o k t q).resetLine = s.resetLine ∧ (s.noteOutcome o k t q).link = s.link ∧
    (s.noteOutcome o k t q).rxq = s.rxq ∧ (s.noteOutcome o k t q).up = s.up ∧
    (s.noteOutcome o k t q).store = s.store ∧ (s.noteOutcome o k t q).panes = s.panes ∧
    (s.noteOutcome o k t q).engine = s.engine ∧ (s.noteOutcome o k t q).digest = s.digest ∧
    (s.noteOutcome o k t q).colour = s.colour ∧ (s.noteOutcome o k t q).scan = s.scan ∧
    (s.noteOutcome o k t q).panel = s.panel ∧ (s.noteOutcome o k t q).keys = s.keys ∧
    (s.noteOutcome o k t q).keyq = s.keyq ∧ (s.noteOutcome o k t q).power = s.power ∧
    (s.noteOutcome o k t q).turn = s.turn ∧ (s.noteOutcome o k t q).pending = s.pending := by
  unfold State.noteOutcome
  (repeat' split) <;> simp

@[simp] theorem State.bannerReached_frame :
    (s.bannerReached).resetLine = s.resetLine ∧ (s.bannerReached).link = s.link ∧ (s.bannerReached).rxq = s.rxq ∧
    (s.bannerReached).up = s.up ∧ (s.bannerReached).dec = s.dec ∧ (s.bannerReached).store = s.store ∧
    (s.bannerReached).panes = s.panes ∧ (s.bannerReached).engine = s.engine ∧ (s.bannerReached).digest = s.digest ∧
    (s.bannerReached).colour = s.colour ∧ (s.bannerReached).scan = s.scan ∧ (s.bannerReached).panel = s.panel ∧
    (s.bannerReached).keys = s.keys ∧ (s.bannerReached).keyq = s.keyq ∧ (s.bannerReached).status = s.status ∧
    (s.bannerReached).turn = s.turn ∧ (s.bannerReached).pending = s.pending := by
  unfold State.bannerReached
  (repeat' split) <;> simp

@[simp] theorem State.restartDozeTimer_frame :
    (s.restartDozeTimer).resetLine = s.resetLine ∧ (s.restartDozeTimer).link = s.link ∧
    (s.restartDozeTimer).rxq = s.rxq ∧ (s.restartDozeTimer).up = s.up ∧ (s.restartDozeTimer).dec = s.dec ∧
    (s.restartDozeTimer).store = s.store ∧ (s.restartDozeTimer).panes = s.panes ∧
    (s.restartDozeTimer).engine = s.engine ∧ (s.restartDozeTimer).digest = s.digest ∧
    (s.restartDozeTimer).colour = s.colour ∧ (s.restartDozeTimer).scan = s.scan ∧
    (s.restartDozeTimer).panel = s.panel ∧ (s.restartDozeTimer).keys = s.keys ∧ (s.restartDozeTimer).keyq = s.keyq ∧
    (s.restartDozeTimer).status = s.status ∧ (s.restartDozeTimer).turn = s.turn ∧
    (s.restartDozeTimer).pending = s.pending := by
  unfold State.restartDozeTimer
  (repeat' split) <;> simp

@[simp] theorem State.enterEntering_frame :
    (s.enterEntering).resetLine = s.resetLine ∧ (s.enterEntering).link = s.link ∧ (s.enterEntering).store = s.store ∧
    (s.enterEntering).panes = s.panes ∧ (s.enterEntering).engine = s.engine ∧ (s.enterEntering).digest = s.digest ∧
    (s.enterEntering).colour = s.colour ∧ (s.enterEntering).keys = s.keys ∧ (s.enterEntering).keyq = s.keyq ∧
    (s.enterEntering).status = s.status ∧ (s.enterEntering).turn = s.turn ∧
    (s.enterEntering).pending = s.pending := by
  simp [State.enterEntering]

@[simp] theorem State.enterDoze_frame :
    (s.enterDoze).resetLine = s.resetLine ∧ (s.enterDoze).link = s.link ∧ (s.enterDoze).store = s.store ∧
    (s.enterDoze).panes = s.panes ∧ (s.enterDoze).engine = s.engine ∧ (s.enterDoze).colour = s.colour ∧
    (s.enterDoze).keys = s.keys ∧ (s.enterDoze).keyq = s.keyq ∧ (s.enterDoze).status = s.status ∧
    (s.enterDoze).turn = s.turn ∧ (s.enterDoze).pending = s.pending := by
  simp [State.enterDoze]

@[simp] theorem State.abandonPass_frame :
    (s.abandonPass).resetLine = s.resetLine ∧ (s.abandonPass).link = s.link ∧ (s.abandonPass).rxq = s.rxq ∧
    (s.abandonPass).up = s.up ∧ (s.abandonPass).dec = s.dec ∧ (s.abandonPass).store = s.store ∧
    (s.abandonPass).engine = s.engine ∧ (s.abandonPass).colour = s.colour ∧ (s.abandonPass).scan = s.scan ∧
    (s.abandonPass).panel = s.panel ∧ (s.abandonPass).keys = s.keys ∧ (s.abandonPass).keyq = s.keyq ∧
    (s.abandonPass).power = s.power ∧ (s.abandonPass).status = s.status ∧ (s.abandonPass).turn = s.turn ∧
    (s.abandonPass).pending = s.pending := by
  unfold State.abandonPass
  (repeat' split) <;> simp

@[simp] theorem State.restartRemembered_frame :
    (s.restartRemembered).resetLine = s.resetLine ∧ (s.restartRemembered).link = s.link ∧
    (s.restartRemembered).rxq = s.rxq ∧ (s.restartRemembered).up = s.up ∧ (s.restartRemembered).dec = s.dec ∧
    (s.restartRemembered).store = s.store ∧ (s.restartRemembered).panes = s.panes ∧
    (s.restartRemembered).engine = s.engine ∧ (s.restartRemembered).digest = s.digest ∧
    (s.restartRemembered).colour = s.colour ∧ (s.restartRemembered).scan = s.scan ∧
    (s.restartRemembered).keys = s.keys ∧ (s.restartRemembered).keyq = s.keyq ∧
    (s.restartRemembered).power = s.power ∧ (s.restartRemembered).status = s.status ∧
    (s.restartRemembered).turn = s.turn ∧ (s.restartRemembered).pending = s.pending := by
  unfold State.restartRemembered
  (repeat' split) <;> simp

@[simp] theorem State.abortDoze_frame :
    (s.abortDoze).resetLine = s.resetLine ∧ (s.abortDoze).link = s.link ∧ (s.abortDoze).rxq = s.rxq ∧
    (s.abortDoze).up = s.up ∧ (s.abortDoze).dec = s.dec ∧ (s.abortDoze).store = s.store ∧
    (s.abortDoze).engine = s.engine ∧ (s.abortDoze).colour = s.colour ∧ (s.abortDoze).scan = s.scan ∧
    (s.abortDoze).keys = s.keys ∧ (s.abortDoze).keyq = s.keyq ∧ (s.abortDoze).status = s.status ∧
    (s.abortDoze).turn = s.turn ∧ (s.abortDoze).pending = s.pending := by
  simp [State.abortDoze]

@[simp] theorem State.wake_frame :
    (s.wake).resetLine = s.resetLine ∧ (s.wake).link = s.link ∧ (s.wake).rxq = s.rxq ∧ (s.wake).up = s.up ∧
    (s.wake).dec = s.dec ∧ (s.wake).store = s.store ∧ (s.wake).panes = s.panes ∧ (s.wake).engine = s.engine ∧
    (s.wake).digest = s.digest ∧ (s.wake).colour = s.colour ∧ (s.wake).scan = s.scan ∧ (s.wake).panel = s.panel ∧
    (s.wake).keys = s.keys ∧ (s.wake).keyq = s.keyq ∧ (s.wake).status = s.status ∧ (s.wake).turn = s.turn ∧
    (s.wake).pending = s.pending := by
  unfold State.wake
  (repeat' split) <;> simp

@[simp] theorem State.endCheck_frame (l : Bool) :
    (s.endCheck l).resetLine = s.resetLine ∧ (s.endCheck l).link = s.link ∧ (s.endCheck l).rxq = s.rxq ∧
    (s.endCheck l).up = s.up ∧ (s.endCheck l).dec = s.dec ∧ (s.endCheck l).store = s.store ∧
    (s.endCheck l).engine = s.engine ∧ (s.endCheck l).colour = s.colour ∧ (s.endCheck l).scan = s.scan ∧
    (s.endCheck l).keys = s.keys ∧ (s.endCheck l).keyq = s.keyq ∧ (s.endCheck l).turn = s.turn ∧
    (s.endCheck l).pending = s.pending := by
  unfold State.endCheck
  dsimp only
  (repeat' split) <;> simp

@[simp] theorem State.beginClearing_frame (n : Nat) (l : List Nat) :
    (s.beginClearing n l).resetLine = s.resetLine ∧ (s.beginClearing n l).link = s.link ∧
    (s.beginClearing n l).rxq = s.rxq ∧ (s.beginClearing n l).up = s.up ∧ (s.beginClearing n l).dec = s.dec ∧
    (s.beginClearing n l).store = s.store ∧ (s.beginClearing n l).colour = s.colour ∧
    (s.beginClearing n l).scan = s.scan ∧ (s.beginClearing n l).panel = s.panel ∧
    (s.beginClearing n l).keys = s.keys ∧ (s.beginClearing n l).keyq = s.keyq ∧
    (s.beginClearing n l).power = s.power ∧ (s.beginClearing n l).status = s.status ∧
    (s.beginClearing n l).turn = s.turn ∧ (s.beginClearing n l).pending = s.pending := by
  simp [State.beginClearing]

@[simp] theorem State.checkMade_frame (l : List Nat) :
    (s.checkMade l).resetLine = s.resetLine ∧ (s.checkMade l).link = s.link ∧ (s.checkMade l).rxq = s.rxq ∧
    (s.checkMade l).up = s.up ∧ (s.checkMade l).dec = s.dec ∧ (s.checkMade l).store = s.store ∧
    (s.checkMade l).colour = s.colour ∧ (s.checkMade l).scan = s.scan ∧ (s.checkMade l).keys = s.keys ∧
    (s.checkMade l).keyq = s.keyq ∧ (s.checkMade l).turn = s.turn ∧ (s.checkMade l).pending = s.pending := by
  unfold State.checkMade
  (repeat' split) <;> simp

@[simp] theorem State.endPlay_frame :
    (s.endPlay).resetLine = s.resetLine ∧ (s.endPlay).link = s.link ∧ (s.endPlay).rxq = s.rxq ∧
    (s.endPlay).up = s.up ∧ (s.endPlay).dec = s.dec ∧ (s.endPlay).store = s.store ∧ (s.endPlay).panes = s.panes ∧
    (s.endPlay).digest = s.digest ∧ (s.endPlay).colour = s.colour ∧ (s.endPlay).scan = s.scan ∧
    (s.endPlay).panel = s.panel ∧ (s.endPlay).keys = s.keys ∧ (s.endPlay).keyq = s.keyq ∧
    (s.endPlay).status = s.status ∧ (s.endPlay).turn = s.turn ∧ (s.endPlay).pending = s.pending := by
  simp [State.endPlay]

@[simp] theorem State.bannerRead_frame (c : Nat) :
    (s.bannerRead c).resetLine = s.resetLine ∧ (s.bannerRead c).link = s.link ∧ (s.bannerRead c).rxq = s.rxq ∧
    (s.bannerRead c).up = s.up ∧ (s.bannerRead c).store = s.store ∧ (s.bannerRead c).panes = s.panes ∧
    (s.bannerRead c).digest = s.digest ∧ (s.bannerRead c).colour = s.colour ∧ (s.bannerRead c).scan = s.scan ∧
    (s.bannerRead c).panel = s.panel ∧ (s.bannerRead c).keys = s.keys ∧ (s.bannerRead c).keyq = s.keyq ∧
    (s.bannerRead c).turn = s.turn ∧ (s.bannerRead c).pending = s.pending := by
  unfold State.bannerRead
  dsimp only
  (repeat' split) <;> simp

@[simp] theorem State.truncate_frame :
    (s.truncate).resetLine = s.resetLine ∧ (s.truncate).rxq = s.rxq ∧ (s.truncate).up = s.up ∧
    (s.truncate).dec = s.dec ∧ (s.truncate).store = s.store ∧ (s.truncate).panes = s.panes ∧
    (s.truncate).engine = s.engine ∧ (s.truncate).digest = s.digest ∧ (s.truncate).colour = s.colour ∧
    (s.truncate).scan = s.scan ∧ (s.truncate).panel = s.panel ∧ (s.truncate).keys = s.keys ∧
    (s.truncate).keyq = s.keyq ∧ (s.truncate).power = s.power ∧ (s.truncate).turn = s.turn ∧
    (s.truncate).pending = s.pending := by
  unfold State.truncate
  (repeat' split) <;> simp

@[simp] theorem State.leaveUp_frame :
    (s.leaveUp).resetLine = s.resetLine ∧ (s.leaveUp).link = s.link ∧ (s.leaveUp).rxq = s.rxq ∧
    (s.leaveUp).up = s.up ∧ (s.leaveUp).dec = s.dec ∧ (s.leaveUp).store = s.store ∧ (s.leaveUp).panes = s.panes ∧
    (s.leaveUp).engine = s.engine ∧ (s.leaveUp).digest = s.digest ∧ (s.leaveUp).colour = s.colour ∧
    (s.leaveUp).scan = s.scan ∧ (s.leaveUp).panel = s.panel ∧ (s.leaveUp).keys = s.keys ∧ (s.leaveUp).keyq = s.keyq ∧
    (s.leaveUp).status = s.status ∧ (s.leaveUp).turn = s.turn ∧ (s.leaveUp).pending = s.pending := by
  unfold State.leaveUp
  (repeat' split) <;> simp

@[simp] theorem State.enterAbsent_frame :
    (s.enterAbsent).resetLine = s.resetLine ∧ (s.enterAbsent).rxq = s.rxq ∧ (s.enterAbsent).up = s.up ∧
    (s.enterAbsent).store = s.store ∧ (s.enterAbsent).panes = s.panes ∧ (s.enterAbsent).engine = s.engine ∧
    (s.enterAbsent).digest = s.digest ∧ (s.enterAbsent).colour = s.colour ∧ (s.enterAbsent).scan = s.scan ∧
    (s.enterAbsent).panel = s.panel ∧ (s.enterAbsent).keys = s.keys ∧ (s.enterAbsent).keyq = s.keyq ∧
    (s.enterAbsent).turn = s.turn ∧ (s.enterAbsent).pending = s.pending := by
  simp [State.enterAbsent]

@[simp] theorem State.goQuiet_frame :
    (s.goQuiet).resetLine = s.resetLine ∧ (s.goQuiet).rxq = s.rxq ∧ (s.goQuiet).up = s.up ∧ (s.goQuiet).dec = s.dec ∧
    (s.goQuiet).store = s.store ∧ (s.goQuiet).panes = s.panes ∧ (s.goQuiet).engine = s.engine ∧
    (s.goQuiet).digest = s.digest ∧ (s.goQuiet).colour = s.colour ∧ (s.goQuiet).scan = s.scan ∧
    (s.goQuiet).panel = s.panel ∧ (s.goQuiet).keys = s.keys ∧ (s.goQuiet).keyq = s.keyq ∧
    (s.goQuiet).status = s.status ∧ (s.goQuiet).turn = s.turn ∧ (s.goQuiet).pending = s.pending := by
  simp [State.goQuiet]

@[simp] theorem State.staleDiscard_frame :
    (s.staleDiscard).resetLine = s.resetLine ∧ (s.staleDiscard).link = s.link ∧ (s.staleDiscard).rxq = s.rxq ∧
    (s.staleDiscard).up = s.up ∧ (s.staleDiscard).dec = s.dec ∧ (s.staleDiscard).store = s.store ∧
    (s.staleDiscard).panes = s.panes ∧ (s.staleDiscard).engine = s.engine ∧ (s.staleDiscard).digest = s.digest ∧
    (s.staleDiscard).colour = s.colour ∧ (s.staleDiscard).scan = s.scan ∧ (s.staleDiscard).panel = s.panel ∧
    (s.staleDiscard).keys = s.keys ∧ (s.staleDiscard).power = s.power ∧ (s.staleDiscard).turn = s.turn ∧
    (s.staleDiscard).pending = s.pending := by
  simp [State.staleDiscard]

@[simp] theorem State.resume_frame :
    (s.resume).resetLine = s.resetLine ∧ (s.resume).rxq = s.rxq ∧ (s.resume).dec = s.dec ∧
    (s.resume).store = s.store ∧ (s.resume).panes = s.panes ∧ (s.resume).engine = s.engine ∧
    (s.resume).digest = s.digest ∧ (s.resume).colour = s.colour ∧ (s.resume).scan = s.scan ∧
    (s.resume).panel = s.panel ∧ (s.resume).keys = s.keys ∧ (s.resume).turn = s.turn ∧
    (s.resume).pending = s.pending := by
  simp [State.resume]

@[simp] theorem State.admitFrame_frame (f : RxFrame) :
    (s.admitFrame f).resetLine = s.resetLine ∧ (s.admitFrame f).link = s.link ∧ (s.admitFrame f).dec = s.dec ∧
    (s.admitFrame f).store = s.store ∧ (s.admitFrame f).engine = s.engine ∧ (s.admitFrame f).colour = s.colour ∧
    (s.admitFrame f).scan = s.scan ∧ (s.admitFrame f).keys = s.keys ∧ (s.admitFrame f).keyq = s.keyq ∧
    (s.admitFrame f).status = s.status ∧ (s.admitFrame f).turn = s.turn ∧ (s.admitFrame f).pending = s.pending := by
  unfold State.admitFrame
  dsimp only
  (repeat' split) <;> simp

@[simp] theorem State.admission_frame (f : RxFrame) :
    (s.admission f).resetLine = s.resetLine ∧ (s.admission f).link = s.link ∧ (s.admission f).dec = s.dec ∧
    (s.admission f).store = s.store ∧ (s.admission f).engine = s.engine ∧ (s.admission f).colour = s.colour ∧
    (s.admission f).scan = s.scan ∧ (s.admission f).keys = s.keys ∧ (s.admission f).keyq = s.keyq ∧
    (s.admission f).turn = s.turn ∧ (s.admission f).pending = s.pending := by
  unfold State.admission
  (repeat' split) <;> simp

@[simp] theorem State.keepFrame_frame (k g q : Byte) (p : List Byte) :
    (s.keepFrame k g q p).resetLine = s.resetLine ∧ (s.keepFrame k g q p).dec = s.dec ∧
    (s.keepFrame k g q p).store = s.store ∧ (s.keepFrame k g q p).engine = s.engine ∧
    (s.keepFrame k g q p).colour = s.colour ∧ (s.keepFrame k g q p).scan = s.scan ∧
    (s.keepFrame k g q p).keys = s.keys ∧ (s.keepFrame k g q p).keyq = s.keyq ∧ (s.keepFrame k g q p).turn = s.turn ∧
    (s.keepFrame k g q p).pending = s.pending := by
  unfold State.keepFrame
  dsimp only
  (repeat' split) <;> simp

@[simp] theorem State.classify_frame (k g q : Byte) (p : List Byte) :
    (s.classify k g q p).resetLine = s.resetLine ∧ (s.classify k g q p).dec = s.dec ∧
    (s.classify k g q p).store = s.store ∧ (s.classify k g q p).engine = s.engine ∧
    (s.classify k g q p).colour = s.colour ∧ (s.classify k g q p).scan = s.scan ∧
    (s.classify k g q p).keys = s.keys ∧ (s.classify k g q p).keyq = s.keyq ∧ (s.classify k g q p).turn = s.turn ∧
    (s.classify k g q p).pending = s.pending := by
  unfold State.classify
  dsimp only
  (repeat' split) <;> simp

@[simp] theorem State.goodFrame_frame :
    (s.goodFrame).resetLine = s.resetLine ∧ (s.goodFrame).rxq = s.rxq ∧ (s.goodFrame).dec = s.dec ∧
    (s.goodFrame).store = s.store ∧ (s.goodFrame).panes = s.panes ∧ (s.goodFrame).engine = s.engine ∧
    (s.goodFrame).digest = s.digest ∧ (s.goodFrame).colour = s.colour ∧ (s.goodFrame).scan = s.scan ∧
    (s.goodFrame).panel = s.panel ∧ (s.goodFrame).keys = s.keys ∧ (s.goodFrame).turn = s.turn ∧
    (s.goodFrame).pending = s.pending := by
  unfold State.goodFrame
  (repeat' split) <;> simp

@[simp] theorem State.endFrame_frame (b : List Byte) :
    (s.endFrame b).resetLine = s.resetLine ∧ (s.endFrame b).dec = s.dec ∧ (s.endFrame b).store = s.store ∧
    (s.endFrame b).engine = s.engine ∧ (s.endFrame b).colour = s.colour ∧ (s.endFrame b).scan = s.scan ∧
    (s.endFrame b).keys = s.keys ∧ (s.endFrame b).turn = s.turn ∧ (s.endFrame b).pending = s.pending := by
  unfold State.endFrame
  dsimp only
  (repeat' split) <;> simp

@[simp] theorem State.queueKey_frame (e : KeyEvent) :
    (s.queueKey e).resetLine = s.resetLine ∧ (s.queueKey e).link = s.link ∧ (s.queueKey e).rxq = s.rxq ∧
    (s.queueKey e).up = s.up ∧ (s.queueKey e).dec = s.dec ∧ (s.queueKey e).store = s.store ∧
    (s.queueKey e).panes = s.panes ∧ (s.queueKey e).engine = s.engine ∧ (s.queueKey e).digest = s.digest ∧
    (s.queueKey e).colour = s.colour ∧ (s.queueKey e).scan = s.scan ∧ (s.queueKey e).panel = s.panel ∧
    (s.queueKey e).keys = s.keys ∧ (s.queueKey e).power = s.power ∧ (s.queueKey e).turn = s.turn ∧
    (s.queueKey e).pending = s.pending := by
  unfold State.queueKey
  (repeat' split) <;> simp

@[simp] theorem State.makeAction_frame (a : KeyAction) (e : KeyEvent) :
    (s.makeAction a e).resetLine = s.resetLine ∧ (s.makeAction a e).link = s.link ∧ (s.makeAction a e).rxq = s.rxq ∧
    (s.makeAction a e).up = s.up ∧ (s.makeAction a e).dec = s.dec ∧ (s.makeAction a e).store = s.store ∧
    (s.makeAction a e).panes = s.panes ∧ (s.makeAction a e).engine = s.engine ∧
    (s.makeAction a e).digest = s.digest ∧ (s.makeAction a e).colour = s.colour ∧ (s.makeAction a e).scan = s.scan ∧
    (s.makeAction a e).panel = s.panel ∧ (s.makeAction a e).power = s.power ∧ (s.makeAction a e).turn = s.turn ∧
    (s.makeAction a e).pending = s.pending := by
  unfold State.makeAction
  (repeat' split) <;> simp

@[simp] theorem State.processMake_frame (p : Nat) :
    (s.processMake p).resetLine = s.resetLine ∧ (s.processMake p).link = s.link ∧ (s.processMake p).rxq = s.rxq ∧
    (s.processMake p).up = s.up ∧ (s.processMake p).dec = s.dec ∧ (s.processMake p).store = s.store ∧
    (s.processMake p).panes = s.panes ∧ (s.processMake p).engine = s.engine ∧ (s.processMake p).digest = s.digest ∧
    (s.processMake p).colour = s.colour ∧ (s.processMake p).scan = s.scan ∧ (s.processMake p).panel = s.panel ∧
    (s.processMake p).turn = s.turn ∧ (s.processMake p).pending = s.pending := by
  unfold State.processMake
  dsimp only
  (repeat' split) <;> simp

@[simp] theorem State.processBreak_frame (p : Nat) :
    (s.processBreak p).resetLine = s.resetLine ∧ (s.processBreak p).link = s.link ∧ (s.processBreak p).rxq = s.rxq ∧
    (s.processBreak p).up = s.up ∧ (s.processBreak p).dec = s.dec ∧ (s.processBreak p).store = s.store ∧
    (s.processBreak p).panes = s.panes ∧ (s.processBreak p).engine = s.engine ∧
    (s.processBreak p).digest = s.digest ∧ (s.processBreak p).colour = s.colour ∧ (s.processBreak p).scan = s.scan ∧
    (s.processBreak p).panel = s.panel ∧ (s.processBreak p).power = s.power ∧ (s.processBreak p).turn = s.turn ∧
    (s.processBreak p).pending = s.pending := by
  unfold State.processBreak
  dsimp only
  (repeat' split) <;> simp

@[simp] theorem State.recomputePair_frame (k : Nat) :
    (s.recomputePair k).resetLine = s.resetLine ∧ (s.recomputePair k).link = s.link ∧
    (s.recomputePair k).rxq = s.rxq ∧ (s.recomputePair k).up = s.up ∧ (s.recomputePair k).dec = s.dec ∧
    (s.recomputePair k).store = s.store ∧ (s.recomputePair k).panes = s.panes ∧
    (s.recomputePair k).engine = s.engine ∧ (s.recomputePair k).digest = s.digest ∧
    (s.recomputePair k).scan = s.scan ∧ (s.recomputePair k).panel = s.panel ∧ (s.recomputePair k).keys = s.keys ∧
    (s.recomputePair k).keyq = s.keyq ∧ (s.recomputePair k).power = s.power ∧ (s.recomputePair k).turn = s.turn ∧
    (s.recomputePair k).pending = s.pending := by
  unfold State.recomputePair
  dsimp only
  (repeat' split) <;> simp

@[simp] theorem State.softReset_frame :
    (s.softReset).resetLine = s.resetLine ∧ (s.softReset).link = s.link ∧ (s.softReset).rxq = s.rxq ∧
    (s.softReset).up = s.up ∧ (s.softReset).store = s.store ∧ (s.softReset).colour = s.colour ∧
    (s.softReset).scan = s.scan ∧ (s.softReset).panel = s.panel ∧ (s.softReset).keys = s.keys ∧
    (s.softReset).keyq = s.keyq ∧ (s.softReset).power = s.power ∧ (s.softReset).turn = s.turn ∧
    (s.softReset).pending = s.pending := by
  simp [State.softReset]

@[simp] theorem State.refuseAsk_frame (n : Nat) (f : RxFrame) (r : Record) (e : Reason) :
    (s.refuseAsk n f r e).resetLine = s.resetLine ∧ (s.refuseAsk n f r e).link = s.link ∧
    (s.refuseAsk n f r e).rxq = s.rxq ∧ (s.refuseAsk n f r e).up = s.up ∧ (s.refuseAsk n f r e).store = s.store ∧
    (s.refuseAsk n f r e).panes = s.panes ∧ (s.refuseAsk n f r e).engine = s.engine ∧
    (s.refuseAsk n f r e).digest = s.digest ∧ (s.refuseAsk n f r e).colour = s.colour ∧
    (s.refuseAsk n f r e).scan = s.scan ∧ (s.refuseAsk n f r e).panel = s.panel ∧
    (s.refuseAsk n f r e).keys = s.keys ∧ (s.refuseAsk n f r e).keyq = s.keyq ∧
    (s.refuseAsk n f r e).power = s.power ∧ (s.refuseAsk n f r e).turn = s.turn ∧
    (s.refuseAsk n f r e).pending = s.pending := by
  simp [State.refuseAsk]

@[simp] theorem State.engineRuns_frame :
    (s.engineRuns).resetLine = s.resetLine ∧ (s.engineRuns).link = s.link ∧ (s.engineRuns).rxq = s.rxq ∧
    (s.engineRuns).up = s.up ∧ (s.engineRuns).colour = s.colour ∧ (s.engineRuns).scan = s.scan ∧
    (s.engineRuns).panel = s.panel ∧ (s.engineRuns).keys = s.keys ∧ (s.engineRuns).keyq = s.keyq ∧
    (s.engineRuns).power = s.power ∧ (s.engineRuns).pending = s.pending := by
  unfold State.engineRuns
  dsimp only
  (repeat' split) <;> simp

/-- All that the going on of the scan can do. -/
@[simp] theorem State.scanRuns_frame :
    (s.scanRuns).resetLine = s.resetLine ∧ (s.scanRuns).link = s.link ∧ (s.scanRuns).rxq = s.rxq ∧
    (s.scanRuns).up = s.up ∧ (s.scanRuns).dec = s.dec ∧ (s.scanRuns).store = s.store ∧ (s.scanRuns).panes = s.panes ∧
    (s.scanRuns).engine = s.engine ∧ (s.scanRuns).digest = s.digest ∧ (s.scanRuns).colour = s.colour ∧
    (s.scanRuns).scan.active = s.scan.active ∧ (s.scanRuns).scan.pendingView = s.scan.pendingView ∧
    (s.scanRuns).scan.frameCounter = s.scan.frameCounter ∧ (s.scanRuns).panel = s.panel ∧ (s.scanRuns).keys = s.keys ∧
    (s.scanRuns).keyq = s.keyq ∧ (s.scanRuns).power = s.power ∧ (s.scanRuns).status = s.status ∧
    (s.scanRuns).pending = s.pending := by
  unfold State.scanRuns
  split <;> simp [Scanout.scanOn]

@[simp] theorem answerWith_frame (check : Record → Option Reason) (body : Record → State → List Word) (n : Nat) (f : RxFrame) (r : Record) :
    (answerWith check body n f r s).resetLine = s.resetLine ∧ (answerWith check body n f r s).link = s.link ∧
    (answerWith check body n f r s).rxq = s.rxq ∧ (answerWith check body n f r s).up = s.up ∧
    (answerWith check body n f r s).store = s.store ∧ (answerWith check body n f r s).panes = s.panes ∧
    (answerWith check body n f r s).engine = s.engine ∧ (answerWith check body n f r s).digest = s.digest ∧
    (answerWith check body n f r s).colour = s.colour ∧ (answerWith check body n f r s).scan = s.scan ∧
    (answerWith check body n f r s).panel = s.panel ∧ (answerWith check body n f r s).keys = s.keys ∧
    (answerWith check body n f r s).keyq = s.keyq ∧ (answerWith check body n f r s).power = s.power ∧
    (answerWith check body n f r s).turn = s.turn ∧ (answerWith check body n f r s).pending = s.pending := by
  unfold answerWith
  (repeat' split) <;> simp

@[simp] theorem answerStatus_frame (n : Nat) (f : RxFrame) (r : Record) :
    (answerStatus n f r s).resetLine = s.resetLine ∧ (answerStatus n f r s).link = s.link ∧
    (answerStatus n f r s).rxq = s.rxq ∧ (answerStatus n f r s).up = s.up ∧ (answerStatus n f r s).store = s.store ∧
    (answerStatus n f r s).panes = s.panes ∧ (answerStatus n f r s).engine = s.engine ∧
    (answerStatus n f r s).digest = s.digest ∧ (answerStatus n f r s).colour = s.colour ∧
    (answerStatus n f r s).scan = s.scan ∧ (answerStatus n f r s).panel = s.panel ∧
    (answerStatus n f r s).keys = s.keys ∧ (answerStatus n f r s).keyq = s.keyq ∧
    (answerStatus n f r s).power = s.power ∧ (answerStatus n f r s).turn = s.turn ∧
    (answerStatus n f r s).pending = s.pending := by
  unfold answerStatus
  (repeat' split) <;> simp

@[simp] theorem answerDigest_frame (n : Nat) (f : RxFrame) (r : Record) :
    (answerDigest n f r s).resetLine = s.resetLine ∧ (answerDigest n f r s).link = s.link ∧
    (answerDigest n f r s).rxq = s.rxq ∧ (answerDigest n f r s).up = s.up ∧ (answerDigest n f r s).store = s.store ∧
    (answerDigest n f r s).engine = s.engine ∧ (answerDigest n f r s).colour = s.colour ∧
    (answerDigest n f r s).scan = s.scan ∧ (answerDigest n f r s).panel = s.panel ∧
    (answerDigest n f r s).keys = s.keys ∧ (answerDigest n f r s).keyq = s.keyq ∧
    (answerDigest n f r s).power = s.power ∧ (answerDigest n f r s).turn = s.turn ∧
    (answerDigest n f r s).pending = s.pending := by
  unfold answerDigest
  (repeat' split) <;> simp

end Sys2Proof.Machine
end

