-- ==== Sys2Proof/Laws/Records.lean ====
section
/-! SUPPORT. Everything that the shared operations on records can do: a command's guard, the record at the cursor, the
walk past a record, refusals, and the taking of control, draw and ASK records. -/

namespace Sys2Proof.Machine

/-! ## Guards -/

/-- A guarded command answers a next state: its effect with the line released, the same state otherwise. -/
theorem live_next {s t : State} {e : State → State} :
    live s e = .next t ↔ t = if s.resetLine then s else e s := by
  unfold live
  constructor
  · intro h; injection h with h; exact h.symm
  · intro h; rw [h]

/-- An event answers a next state: its effect where it can occur with the line released, the same state otherwise. -/
theorem onEvent_next {s t : State} {b : Bool} {e : State → State} :
    onEvent s b e = .next t ↔ t = if s.resetLine = false ∧ b = true then e s else s := by
  unfold onEvent live
  constructor
  · intro h; injection h with h; rw [← h]; cases s.resetLine <;> cases b <;> rfl
  · intro h; rw [h]; cases s.resetLine <;> cases b <;> rfl

/-- What every reachable state keeps under the effect, a guarded command keeps. -/
theorem live_keeps {P : State → Prop} {s t : State} {e : State → State} (h : live s e = .next t) (hs : P s)
    (he : s.resetLine = false → P (e s)) : P t := by
  rw [live_next] at h
  subst h
  split
  · exact hs
  · exact he (by simpa using ‹¬ s.resetLine = true›)

/-- The same for an event. -/
theorem onEvent_keeps {P : State → Prop} {s t : State} {b : Bool} {e : State → State} (h : onEvent s b e = .next t)
    (hs : P s) (he : s.resetLine = false → b = true → P (e s)) : P t := by
  rw [onEvent_next] at h
  subst h
  split
  · exact he (by simp_all) (by simp_all)
  · exact hs

/-! ## The record at the cursor -/

/-- The whole record at the cursor of a walking decoder. -/
theorem record?_some {s : State} {f : RxFrame} {r : Record} :
    s.record? = some (f, r) ↔
      ∃ c rest, s.dec.state = .walking c ∧ s.rxq.frames = f :: rest ∧ readRecord (f.payload.drop c) = some (.whole r) := by
  unfold State.record? State.isWalking State.atCursor
  cases hd : s.dec.state with
  | idle => simp
  | syncWait => simp
  | slotWait c => simp
  | walking c =>
    cases hq : s.rxq.frames with
    | nil => simp [DecoderState.cursor?]
    | cons g rest =>
      cases hr : readRecord (g.payload.drop c) with
      | none =>
        simp only [DecoderState.cursor?, hr, if_true, Option.map_none]
        constructor
        · intro h; cases h
        · rintro ⟨c', rest', hc, hl, hw⟩
          injection hc with hc; injection hl with hg _
          subst hc; subst hg; rw [hr] at hw; cases hw
      | some v =>
        cases v with
        | broken =>
          simp only [DecoderState.cursor?, hr, if_true, Option.map_some]
          constructor
          · intro h; cases h
          · rintro ⟨c', rest', hc, hl, hw⟩
            injection hc with hc; injection hl with hg _
            subst hc; subst hg; rw [hr] at hw; cases hw
        | whole r' =>
          simp only [DecoderState.cursor?, hr, if_true, Option.map_some, Option.some.injEq, Prod.mk.injEq]
          constructor
          · rintro ⟨rfl, rfl⟩; exact ⟨c, rest, rfl, rfl, hr⟩
          · rintro ⟨c', rest', hc, hl, hw⟩
            injection hc with hc; injection hl with hg _
            subst hc; subst hg; rw [hr] at hw
            injection hw with hw; injection hw with hw
            exact ⟨rfl, hw⟩

theorem recordOf?_some {s : State} {code : Byte} {f : RxFrame} {r : Record} :
    s.recordOf? code = some (f, r) ↔ s.record? = some (f, r) ∧ r.kind = code := by
  unfold State.recordOf?
  rw [Option.filter_eq_some_iff]
  simp

/-- A record is read only where four bytes of header and its whole body stand; its extent fits in the bytes there. -/
theorem readRecord_whole {bytes : List Byte} {r : Record} (h : readRecord bytes = some (.whole r)) :
    r.extent ≤ bytes.length ∧ 4 ≤ bytes.length ∧ r.body.length ≤ 255 := by
  match bytes with
  | [] => simp [readRecord] at h
  | [_] => simp [readRecord] at h
  | [_, _] => simp [readRecord] at h
  | [_, _, _] => simp [readRecord] at h
  | kind :: length :: tag :: par :: rest =>
    simp only [readRecord] at h
    split at h
    · cases h
    · rename_i hl
      have hr : r = { kind := kind, tag := tag, body := wordsOf (rest.take (4 * length.toNat)) } := by
        injection h with h; injection h with h; exact h.symm
      have hw : ∀ (k : Nat) (l : List Byte), l.length = 4 * k → (wordsOf l).length = k := by
        intro k
        induction k with
        | zero => intro l hl; simp at hl; subst hl; rfl
        | succ k ih =>
          intro l hl
          match l, hl with
          | a :: b :: c :: d :: l', hl =>
            simp only [wordsOf, List.length_cons]
            rw [ih l' (by simp at hl; omega)]
          | [], hl => simp at hl
          | [_], hl => simp at hl; omega
          | [_, _], hl => simp at hl; omega
          | [_, _, _], hl => simp at hl; omega
      have hlen : (wordsOf (rest.take (4 * length.toNat))).length = length.toNat := by
        apply hw
        rw [List.length_take]
        omega
      have hb : length.toNat ≤ 255 := by have := length.isLt; omega
      subst hr
      simp only [Record.extent, List.length_cons, hlen]
      omega

/-! ## The walk -/

/-- The receive queue after the oldest entry has left, and the flow state it brings (R15, R16). -/
theorem finishFrame_rxq (s : State) :
    s.finishFrame.rxq.frames = s.rxq.frames.tail ∧
      s.finishFrame.rxq.flow =
        (if s.rxq.flow = .hold ∧ occupancy s.rxq.frames.tail ≤ 2048 ∧ s.rxq.frames.tail.length ≤ 4 then .go
          else s.rxq.flow) ∧
      s.finishFrame.dec = { s.dec with state := .idle } := by
  unfold State.finishFrame State.flowAtRemoval State.removeFrame State.setFlow State.setDecoder
  split <;> rename_i h <;> simp_all

/-- Walking from an offset either finishes the frame in hand or leaves the decoder at that offset. -/
theorem walkFrom_cases (s : State) (c : Nat) :
    (s.rxq.frames = [] ∧ s.walkFrom c = s) ∨
      ∃ f rest, s.rxq.frames = f :: rest ∧
        ((f.payload.length ≤ c ∧ s.walkFrom c = s.finishFrame) ∨
          (c < f.payload.length ∧ s.walkFrom c = s.setDecoder (.walking c))) := by
  unfold State.walkFrom
  cases h : s.rxq.frames with
  | nil => exact .inl ⟨rfl, rfl⟩
  | cons f rest =>
    refine .inr ⟨f, rest, rfl, ?_⟩
    by_cases hc : f.payload.length ≤ c
    · exact .inl ⟨hc, by simp [hc]⟩
    · exact .inr ⟨by omega, by simp [hc]⟩

theorem advance_of_cursor {s : State} {r : Record} {c : Nat} (h : s.dec.state.cursor? = some c) :
    s.advance r = s.walkFrom (c + r.extent) := by
  unfold State.advance
  rw [h]

/-! ## Taking a record -/

/-- Everything that taking a control record can do (R27, R29, R30). -/
theorem takeControl_cases (code : Byte) (check : Record → Option Reason) (effect : Record → State → State) (s : State) :
    (s.recordOf? code = none ∧ takeControl code check effect s = s) ∨
      ∃ f r, s.record? = some (f, r) ∧ r.kind = code ∧
        ((f.kind = .draw ∧ takeControl code check effect s = (s.refuseRecord f r .misplaced).advance r) ∨
          (f.kind = .ctrl ∧ ∃ e, check r = some e ∧ takeControl code check effect s = (s.refuseRecord f r e).advance r) ∨
          (f.kind = .ctrl ∧ check r = none ∧ takeControl code check effect s = (effect r s).advance r)) := by
  cases h : s.recordOf? code with
  | none => exact .inl ⟨rfl, by simp [takeControl, h]⟩
  | some fr =>
    obtain ⟨f, r⟩ := fr
    obtain ⟨hr, hk⟩ := recordOf?_some.mp h
    refine .inr ⟨f, r, hr, hk, ?_⟩
    cases hf : f.kind with
    | draw => exact .inl ⟨rfl, by simp [takeControl, h, hf]⟩
    | ctrl =>
      cases hc : check r with
      | some e => exact .inr (.inl ⟨rfl, e, rfl, by simp [takeControl, h, hf, hc]⟩)
      | none => exact .inr (.inr ⟨rfl, rfl, by simp [takeControl, h, hf, hc]⟩)

/-- What the effect, a refusal and the walk keep, taking a control record keeps. -/
theorem takeControl_keeps {P : State → Prop} {code : Byte} {check : Record → Option Reason}
    {effect : Record → State → State} {s : State} (hs : P s)
    (hrefuse : ∀ f r e, s.record? = some (f, r) → r.kind = code → P ((s.refuseRecord f r e).advance r))
    (heffect : ∀ f r, s.record? = some (f, r) → r.kind = code → f.kind = .ctrl → check r = none →
      P ((effect r s).advance r)) :
    P (takeControl code check effect s) := by
  rcases takeControl_cases code check effect s with ⟨-, h⟩ | ⟨f, r, hr, hk, ⟨-, h⟩ | ⟨-, e, -, h⟩ | ⟨hf, hc, h⟩⟩
  · rwa [h]
  · rw [h]; exact hrefuse f r _ hr hk
  · rw [h]; exact hrefuse f r _ hr hk
  · rw [h]; exact heffect f r hr hk hf hc

/-- Taking a PANEL record is taking a control record, or nothing. -/
theorem takePanel_cases (a : PanelAction) (effect : Record → State → State) (s : State) :
    takePanel a effect s = s ∨ takePanel a effect s = takeControl 0x28 panelCheck effect s := by
  unfold takePanel
  (repeat' split) <;> simp

/-- Everything that taking a draw record can do (R29, R73, R78). -/
theorem takeDraw_cases (kind : DrawKind) (s : State) :
    takeDraw kind s = s ∨
      ∃ f r, s.record? = some (f, r) ∧ r.kind = kind.code ∧
        ((f.kind = .ctrl ∧ takeDraw kind s = (s.refuseRecord f r .misplaced).advance r) ∨
          (f.kind = .draw ∧ s.engine.holder = .free ∧
            ∃ o, o = examineDraw kind s.engine.pens s.panes r.body ∧
              ((∃ job cut, o = .drawn job cut ∧
                takeDraw kind s = (s.noteOutcome o r.kind r.tag (some f.sequence)).setEngine .decoder (some job)) ∨
                (o.job? = none ∧
                  takeDraw kind s = (s.noteOutcome o r.kind r.tag (some f.sequence)).advance r)))) := by
  cases h : s.recordOf? kind.code with
  | none => exact .inl (by simp [takeDraw, h])
  | some fr =>
    obtain ⟨f, r⟩ := fr
    obtain ⟨hr, hk⟩ := recordOf?_some.mp h
    cases hf : f.kind with
    | ctrl => exact .inr ⟨f, r, hr, hk, .inl ⟨hf, by simp [takeDraw, h, hf]⟩⟩
    | draw =>
      by_cases hh : s.engine.holder = .free
      · refine .inr ⟨f, r, hr, hk, .inr ⟨hf, hh, _, rfl, ?_⟩⟩
        cases ho : examineDraw kind s.engine.pens s.panes r.body with
        | drawn job cut => exact .inl ⟨job, cut, rfl, by simp [takeDraw, h, hf, hh, ho, DrawOutcome.job?]⟩
        | refused e => exact .inr ⟨rfl, by simp [takeDraw, h, hf, hh, ho, DrawOutcome.job?]⟩
        | dropped => exact .inr ⟨rfl, by simp [takeDraw, h, hf, hh, ho, DrawOutcome.job?]⟩
        | emptySize => exact .inr ⟨rfl, by simp [takeDraw, h, hf, hh, ho, DrawOutcome.job?]⟩
        | clippedAway => exact .inr ⟨rfl, by simp [takeDraw, h, hf, hh, ho, DrawOutcome.job?]⟩
      · exact .inl (by simp [takeDraw, h, hf, hh])

/-- Everything that taking an ASK record can do (R29, R34). -/
theorem takeAsk_cases (code : Byte) (answer : Nat → RxFrame → Record → State → State) (s : State) :
    takeAsk code answer s = s ∨
      ∃ f r, s.record? = some (f, r) ∧ r.kind = code ∧
        ((f.kind = .draw ∧ takeAsk code answer s = (s.refuseRecord f r .misplaced).advance r) ∨
          (f.kind = .ctrl ∧ ∃ n, s.freeSlot = some n ∧
            takeAsk code answer s = (answer n f r (s.setSlot n (.reserved r.kind r.tag))).advance r) ∨
          (f.kind = .ctrl ∧ s.freeSlot = none ∧ ∃ c, s.dec.state = .walking c ∧
            takeAsk code answer s = s.setDecoder (.slotWait c))) := by
  cases h : s.recordOf? code with
  | none => exact .inl (by simp [takeAsk, h])
  | some fr =>
    obtain ⟨f, r⟩ := fr
    obtain ⟨hr, hk⟩ := recordOf?_some.mp h
    refine .inr ⟨f, r, hr, hk, ?_⟩
    cases hf : f.kind with
    | draw => exact .inl ⟨rfl, by simp [takeAsk, h, hf]⟩
    | ctrl =>
      cases hn : s.freeSlot with
      | some n => exact .inr (.inl ⟨rfl, n, rfl, by simp [takeAsk, h, hf, hn]⟩)
      | none =>
        obtain ⟨c, rest, hd, -, -⟩ := record?_some.mp hr
        exact .inr (.inr ⟨rfl, rfl, c, hd, by simp [takeAsk, h, hf, hn, hd]⟩)

/-! ## Status unit -/

/-- The counters after an advance (R177). -/
theorem count_counter (s : State) (c : Counter) (k : Nat) (i : Nat) :
    (s.count c k).status.counters.get i =
      if c.index = i then min 65535 (s.status.counters.get i + k) else s.status.counters.get i := by
  have h : c.index < 15 := by cases c <;> decide
  simp only [State.count, Table.get_modify]
  by_cases hi : c.index = i
  · subst hi; simp [h]
  · simp [hi]

@[simp] theorem count_rest (s : State) (c : Counter) (k : Nat) :
    (s.count c k).status.summary = s.status.summary ∧ (s.count c k).status.noticeMask = s.status.noticeMask ∧
      (s.count c k).status.noticePending = s.status.noticePending ∧ (s.count c k).status.timeBase = s.status.timeBase :=
  ⟨rfl, rfl, rfl, rfl⟩

@[simp] theorem setFlag_rest (s : State) (f : Flag) :
    (s.setFlag f).status.counters = s.status.counters ∧ (s.setFlag f).status.noticeMask = s.status.noticeMask ∧
      (s.setFlag f).status.timeBase = s.status.timeBase := ⟨rfl, rfl, rfl⟩

/-- A flag is set after its own setting, and any other flag is as it was (R171). -/
theorem setFlag_flag (s : State) (f g : Flag) : (s.setFlag f).flag g = (s.flag g || decide (f = g)) := by
  unfold State.flag State.setFlag
  simp only [BitVec.getLsbD_or]
  congr 1
  cases f <;> cases g <;> decide

/-- What a refusal leaves in the decoder: the last-refusal record, and nothing else (R31). -/
@[simp] theorem refuse_dec (s : State) (k t : Byte) (q : Option Byte) (e : Reason) :
    (s.refuse k t q e).dec =
      { s.dec with lastRefusal := some { kind := k, tag := t, sequence := q, reason := e } } := by
  simp [State.refuse]

/-- What a refusal leaves in the status unit: REFUSED counted and set (R30). -/
@[simp] theorem refuse_status (s : State) (k t : Byte) (q : Option Byte) (e : Reason) :
    (s.refuse k t q e).status = ((s.count .refused).setFlag .refused).status := by
  simp [State.refuse]

end Sys2Proof.Machine
end

