-- ==== Sys2Proof/Laws/Taking.lean ====
section
/-! SUPPORT. The shared operations where nothing hinders them: a command with the line released, an event that can occur, a
control record that passes its checks, an ASK record with a free slot, and the reply slots. -/

namespace Sys2Proof.Machine

/-! ## Guards and checks -/

theorem live_released {s : State} {e : State → State} (h : s.resetLine = false) : live s e = .next (e s) := by
  rw [live_next, h]; rfl

theorem onEvent_occurs {s : State} {b : Bool} {e : State → State} (h1 : s.resetLine = false) (h2 : b = true) :
    onEvent s b e = .next (e s) := by
  rw [onEvent_next, if_pos ⟨h1, h2⟩]

/-- A list of checks has no failure exactly where every check passes (R30). -/
theorem firstFailure_eq_none (l : List (Bool × Reason)) : firstFailure l = none ↔ ∀ x ∈ l, x.1 = true := by
  induction l with
  | nil => simp [firstFailure]
  | cons x l ih => obtain ⟨b, r⟩ := x; cases b <;> simp [firstFailure, ih]

/-- A control record of a CTRL frame that passes its checks: its effect, and the walk past it. -/
theorem takeControl_accepted {s : State} {code : Byte} {check : Record → Option Reason}
    {effect : Record → State → State} {f : RxFrame} {r : Record} (h : s.recordOf? code = some (f, r)) (hf : f.kind = .ctrl)
    (hc : check r = none) : takeControl code check effect s = (effect r s).advance r := by
  simp [takeControl, h, hf, hc]

/-- An ASK record of a CTRL frame with a free slot: the slot is reserved, the record answered, and the walk goes on. -/
theorem takeAsk_granted {s : State} {code : Byte} {answer : Nat → RxFrame → Record → State → State} {f : RxFrame}
    {r : Record} {n : Nat} (h : s.recordOf? code = some (f, r)) (hf : f.kind = .ctrl) (hn : s.freeSlot = some n) :
    takeAsk code answer s = (answer n f r (s.setSlot n (.reserved r.kind r.tag))).advance r := by
  simp [takeAsk, h, hf, hn]

/-! ## Field checks -/

theorem isBit_iff (b : Byte) : isBit b = true ↔ b.toNat ≤ 1 := by simp [isBit]

theorem aluOfCode_isSome (b : Byte) : (Alu.ofCode b).isSome = true ↔ b.toNat ≤ 3 := by
  unfold Alu.ofCode; split <;> simp_all; omega

theorem bitOrderOfCode_isSome (b : Byte) : (BitOrder.ofCode b).isSome = true ↔ b.toNat ≤ 1 := by
  unfold BitOrder.ofCode; split <;> simp_all; omega

/-! ## Reply slots (R33, R34) -/

theorem isFree_iff (sl : Slot) : sl.isFree = true ↔ sl = .free := by cases sl <;> simp [Slot.isFree]

theorem freeSlot_first {s : State} {n : Nat} (hn : n < 4) (h : s.dec.slots.get n = .free)
    (hm : ∀ m < n, s.dec.slots.get m ≠ .free) : s.freeSlot = some n := by
  unfold State.freeSlot Table.findFirst
  rw [List.find?_range_eq_some]
  refine ⟨by simp [h, Slot.isFree], by simpa using hn, ?_⟩
  intro j hj
  have h2 : ¬ (s.dec.slots.get j).isFree = true := fun hh => hm j hj ((isFree_iff _).mp hh)
  simpa using h2

theorem freeSlot_none {s : State} (hm : ∀ m < 4, s.dec.slots.get m ≠ .free) : s.freeSlot = none := by
  unfold State.freeSlot
  rw [Table.findFirst_none]
  intro j hj
  have h2 : ¬ (s.dec.slots.get j).isFree = true := fun hh => hm j hj ((isFree_iff _).mp hh)
  simpa using h2

theorem le_foldl_order (l : List Slot) (m : Nat) : m ≤ l.foldl (fun m sl => max m (sl.order + 1)) m := by
  induction l generalizing m with
  | nil => simp
  | cons a l ih => simp only [List.foldl_cons]; exact le_trans (le_max_left _ _) (ih _)

theorem order_lt_foldl (l : List Slot) (m : Nat) (sl : Slot) (h : sl ∈ l) :
    sl.order < l.foldl (fun m sl => max m (sl.order + 1)) m := by
  induction l generalizing m with
  | nil => simp at h
  | cons a l ih =>
    simp only [List.foldl_cons]
    rcases List.mem_cons.mp h with rfl | h
    · exact lt_of_lt_of_le (lt_of_lt_of_le (Nat.lt_succ_self _) (le_max_right _ _)) (le_foldl_order _ _)
    · exact ih _ h

/-- The next finished reply comes after every reply that is there (R33). -/
theorem order_lt_nextOrder (t : Table Slot 4) {m : Nat} (hm : m < 4) : (t.get m).order < nextOrder t := by
  unfold nextOrder
  apply order_lt_foldl
  rw [Table.get_eq_getElem t hm]
  exact List.getElem_mem _

/-- A reply finished in UP or QUIET waits in its slot (R21). -/
theorem finishReply_alive {s : State} {n : Nat} {kind tag : Byte} {status : ReplyStatus} {body : List Word}
    (h : s.link.state.alive = true) :
    s.finishReply n kind tag status body =
      s.setSlot n (.finished kind tag status body (nextOrder s.dec.slots)) := by
  simp [State.finishReply, h]

/-- A reply finished in ABSENT or ACQUIRING is lost at once (R21). -/
theorem finishReply_lost {s : State} {n : Nat} {kind tag : Byte} {status : ReplyStatus} {body : List Word}
    (h : s.link.state.alive = false) :
    s.finishReply n kind tag status body = (s.setSlot n .free).count .repliesLost := by
  simp [State.finishReply, h]

/-! ## Counters -/

/-- An advance is the writing of one counter (R177). -/
theorem count_eq_set (s : State) (c : Counter) (k : Nat) :
    s.count c k = { s with status := { s.status with
      counters := s.status.counters.set c.index (min 65535 (s.counter c + k)) } } := rfl

theorem counter_set_same (s : State) (c : Counter) (v : Nat) : (s.status.counters.set c.index v).get c.index = v := by
  apply Table.get_set_self; cases c <;> decide

theorem counter_set_other {s : State} {c d : Counter} (h : c ≠ d) (v : Nat) :
    (s.status.counters.set c.index v).get d.index = s.status.counters.get d.index := by
  apply Table.get_set_ne; intro e; apply h; revert e; cases c <;> cases d <;> decide

end Sys2Proof.Machine
end

