-- ==== Sys2Proof/Tests/Slice0.lean ====
section
/-! SUPPORT. Tests. First the ill-formed command and values from the manual's worked examples; then, for every statement
with hypotheses, a theorem named witness_… that shows operands meeting all of them at a boundary of their range. -/

namespace Sys2Proof.Tests

set_option Elab.async false

open Sys2Proof Sys2Proof.Machine Sys2Proof.Statements

/-! ## Small states -/

/-- The part after a hardware reset and its clear pass, with the link UP. -/
def up : State :=
  { State.reset with
    link := { State.reset.link with
      state := .up, contact := .closed, presence := .closed, laneLock := true, expected := some 41 }
    engine := { State.reset.engine with holder := .free } }

/-- A frame of these records. -/
def frame (k : FrameKind) (bytes : List Byte) : RxFrame := ⟨k, 0, 200, bytes⟩

/-- The same part with the decoder at the start of a frame of these records. -/
def holding (k : FrameKind) (bytes : List Byte) : State :=
  { up with
    rxq := { frames := [frame k bytes], flow := .go }
    dec := { State.reset.dec with state := .walking 0 } }

/-- The bytes of a record, as the tablet lays them out. -/
def bytesOf (r : Record) : List Byte := [r.kind, byte r.body.length, r.tag, 0] ++ r.body.flatMap bytesOfWord

/-- The outcome of a command is a next state with this property. -/
def leaves (c : Instr) (s : State) (p : State → Bool) : Bool :=
  match exec c s with
  | .next t => p t
  | .fault _ => false
  | .refused _ => false

theorem at_record {k : FrameKind} {r : Record} (h : readRecord (bytesOf r) = some (.whole r)) :
    AtRecord (holding k (bytesOf r)) (frame k (bytesOf r)) r := ⟨rfl, 0, [], rfl, rfl, h⟩

theorem accepted {r : Record} (h : readRecord (bytesOf r) = some (.whole r)) (hl : lengthMatches r = true)
    (hf : fieldsInRange r = true) : Accepted (holding .ctrl (bytesOf r)) (frame .ctrl (bytesOf r)) r r.kind :=
  ⟨at_record h, rfl, rfl, hl, hf⟩

/-! ## Well-formedness -/

theorem test_ill_formed_column_refused : (Instr.dozePixelLoss 1280 0 0).wellFormed = false := by decide
theorem test_ill_formed_row_refused : (Instr.dozePixelLoss 0 1536 0).wellFormed = false := by decide
theorem test_last_pixel_well_formed : (Instr.dozePixelLoss 1279 1535 0).wellFormed = true := by decide
theorem test_ill_formed_faults : exec (.dozePixelLoss 1280 0 0) up = .fault .noSuchPixel := rfl

/-! ## Values from the manual -/

/-- R93. -/
theorem test_crc_check_values :
    crc16 [0x31, 0x32, 0x33, 0x34, 0x35, 0x36, 0x37, 0x38, 0x39] = 0x29B1 ∧ crc16 [0] = 0xE1F0 := by decide +kernel

/-- R41: pixel (96, 50) is in cell 2003. -/
theorem test_pixel_address : pixelAddress 96 50 = 2003 * 32 := by decide

/-- R70: words as received and as used under LSB_FIRST. -/
theorem test_bit_reversal : reverseWord 0x00000021 = 0x84000000 ∧ reverseWord 0x0F0F0F0F = 0xF0F0F0F0 := by decide +kernel

/-- R107, R114: the reset palette and the reset shaded palette. -/
theorem test_reset_ramp :
    (PaletteEntry.atReset 127).colour.red = 509 ∧ (PaletteEntry.atReset 253).colour.red = 1015 ∧
      (shadedAtReset 128).red = 32 ∧ (shadedAtReset (3 * 256 + 255)).red = 63 := by decide

/-- The worked cases A, B, D, E and F of spec/07. -/
theorem test_shade_cases :
    gained 800 192 = 600 ∧ panelValue false 800 192 (-40) = 35 ∧ panelValue false 1000 400 20 = 63 ∧
      saturates (offsetted 1000 400 20) = true ∧ panelValue false 1023 64 0 = 16 ∧
      saturates (offsetted 20 256 (-100)) = true ∧ panelValue true 1000 400 20 = 63 := by decide

/-- The panel mounted upside down, spec/08: physical (1199, 799) shows pixel (0, 40), physical (1269, 0) pixel (10, 1535). -/
def upsideDown : View :=
  { ox := 1200, oy := 40, split := 760, sx := 0, sy := 1496, planeEnable := 0x7F
    swap := false, mirrorX := true, mirrorY := true }
theorem test_upside_down :
    shownPixel upsideDown 1199 799 = (0, 40) ∧ shownPixel upsideDown 1269 0 = (10, 1535) ∧
      shownPixel upsideDown 1179 794 = (20, 45) := by decide

/-- The worked chatter of spec/01: frame 43 after a missed 42 advances GAP_FRAMES by 1, and 42 is then late. -/
theorem test_gap_then_late :
    (let s := State.classify { up with link := { up.link with expected := some 42 } } 0x01 0 43 []
     s.counter .gapFrames = 1 ∧ s.link.expected = some 44 ∧
      (s.classify 0x01 0 42 []).counter .lateFrames = 1 ∧ (s.classify 0x01 0 42 []).rxq.frames.length = 1) := by
  decide +kernel

/-- R138: positions 3, 5, 19 and 21 form a ghost pattern; 3, 5, 19 and 37 do not. -/
def pressed (ps : List Nat) : BitVec 128 := ps.foldl (fun m p => m ||| (1#128 <<< p)) 0
theorem test_ghost :
    leaves (.keyScan (pressed [3, 5, 19, 21])) { up with keys := { up.keys with sinceScan := 1 } }
      (fun t => decide (t.counter .ghost = 1)) = true ∧
    leaves (.keyScan (pressed [3, 5, 19, 37])) { up with keys := { up.keys with sinceScan := 1 } }
      (fun t => decide (t.counter .ghost = 0) && decide (t.keys.counters.get 37 = 1)) = true := by decide +kernel

/-! ## Draw records from the worked examples (spec/05) -/

/-- The panes of the worked examples: 3 at left 96, top 40, 320 × 200; 4 SHUT at left 0, top 100, 1280 × 300. -/
def pane3 : Pane := { Pane.atReset 3 with valid := true, left := 96, top := 40, width := 320, height := 200 }
def pane4 : Pane :=
  { Pane.atReset 4 with valid := true, left := 0, top := 100, width := 1280, height := 300, access := .shut }
def withPanes (s : State) : State := { s with panes := (s.panes.set 3 pane3).set 4 pane4 }

def drawing (r : Record) : State := withPanes (holding .draw (bytesOf r))

theorem drawing_at {r : Record} {k : DrawKind} (h : readRecord (bytesOf r) = some (.whole r)) (hk : r.kind = k.code) :
    DrawAtCursor (drawing r) (frame .draw (bytesOf r)) r k := ⟨⟨rfl, 0, [], rfl, rfl, h⟩, rfl, hk, rfl⟩

/-- Record 8 of the frame of faults: pane 3, pen 2, x 310, y 190, w 20, h 20. -/
def cornerFill : Record := ⟨0x10, 8, [0x00000203, 0x00BE0136, 0x00140014]⟩
theorem test_corner_fill_cut :
    leaves .fill (drawing cornerFill) (fun t =>
      decide (t.counter .clipped = 1) && decide (t.engine.job.map (fun j => j.todo.length) = some 100)) = true := by
  decide +kernel

/-- Record 1: pen 40 is out of range. -/
theorem test_pen_40_refused :
    leaves .fill (drawing ⟨0x10, 1, [0x00002803, 0, 0x00010001]⟩) (fun t =>
      decide (t.dec.lastRefusal = some ⟨0x10, 1, some 200, .range⟩)) = true := by decide +kernel

/-- Record 5: a SHUT pane drops the record, and it is not counted CLIPPED. -/
theorem test_shut_drop :
    leaves .fill (drawing ⟨0x10, 5, [0x00000204, 0x000007D0, 0x000A01F4]⟩) (fun t =>
      decide (t.counter .shutDrops = 1) && decide (t.counter .clipped = 0)) = true := by decide +kernel

/-- The short shift to the right: indices 1 to 12 in columns 100 to 111 of row 50, moved by 4. -/
def shifted : State :=
  { holding .draw (bytesOf ⟨0x14, 0, [0, 0x00320068, 0x00010008, 0x00320064]⟩) with
    store := (List.range 12).map (fun n => (pixelAddress (100 + n) 50, byte (n + 1))) }
theorem test_shift_right :
    leaves .move shifted (fun t => leaves .drawComplete t (fun u =>
      decide (((List.range 12).map (fun n => (u.pixel (100 + n) 50).toNat)) = [1, 2, 3, 4, 1, 2, 3, 4, 5, 6, 7, 8]))) =
      true := by decide +kernel

/-- R82, R71: a CLEAR of pane 3 covers its 64,000 pixels whatever pen it names. -/
theorem test_clear_covers_pane :
    leaves .clear (drawing ⟨0x11, 0, [0x00001F03]⟩) (fun t =>
      decide (t.engine.job.map (fun j => (j.left, j.top, j.pen.planeMask)) = some (96, 40, 0xFF))) = true := by
  decide +kernel

/-- The PLANES record of spec/05: 19 words through plane mask 0Fh are taken, through 03h refused with LENGTH. -/
def planesRecord : Record := ⟨0x13, 0, [0x00000500, 0x03840040, 0x00020028] ++ List.replicate 16 0⟩
def planesThrough (mask : Byte) : State :=
  { holding .draw (bytesOf planesRecord) with
    engine := { up.engine with pens := up.engine.pens.set 5 { Pen.atReset with planeMask := mask } } }
theorem test_planes_length :
    leaves .planes (planesThrough 0x0F) (fun t => decide (t.engine.holder = .decoder)) = true ∧
    leaves .planes (planesThrough 0x03) (fun t =>
      decide (t.dec.lastRefusal.map LastRefusal.reason = some .length)) = true := by decide +kernel

/-! ## Other worked examples -/

/-- spec/03, reading a cell: the left half of cell 2003 has index 12, the right half 7. -/
def cellState : State :=
  { holding .ctrl (bytesOf ⟨0x3A, 5, [0x00320003, 0x0000FF0C]⟩) with
    store := (List.range 32).map (fun i => (pixelAddress (96 + i) 50, if i < 16 then 12 else 7)) }
theorem test_cell_words :
    cellBody ⟨0x3A, 5, [0x00320003, 0x0000FF0C]⟩ cellState =
      [0x0000FFFF, 0x0000FFFF, 0xFFFFFFFF, 0xFFFF0000, 0, 0, 0, 0, 0xFFFF0000] ∧
    (cellBody ⟨0x3A, 5, [0x00320003, 0x0000040C]⟩ cellState).getD 8 0 = 0xFFFFFFFF := by decide +kernel

/-- spec/01, filling the queue: the sixth frame of 1,016 bytes gives HOLD; a ninth does not fit. -/
theorem test_filling_the_queue :
    (State.admission { up with rxq := { frames := List.replicate 5 ⟨.draw, 0, 0, List.replicate 1016 0⟩, flow := .go } }
      ⟨.draw, 0, 0, List.replicate 1016 0⟩).rxq.flow = .hold ∧
    (State.admission { up with rxq := { frames := List.replicate 8 ⟨.draw, 0, 0, List.replicate 1016 0⟩, flow := .hold } }
      ⟨.draw, 0, 0, List.replicate 1016 0⟩).counter .overflow = 1 := by decide +kernel

/-- R136: 63 steps of 4 reach 252, and the 64th is the last 3. -/
theorem test_backlight_ramp :
    Nat.iterate (fun a => backlightStep a 255) 63 0 = 252 ∧ backlightStep 252 255 = 255 ∧ backlightStep 10 3 = 6 := by decide +kernel

/-- R161, R162: a kind code of 00h ends a banner play with MALFORMED counted. -/
theorem test_banner_ends_on_zero_code :
    (State.bannerRead { up with power := { up.power with bannerLength := 16 } } 0).counter .malformed = 1 := by decide +kernel

/-- spec/09: after a stale discard at a limit of 2000 ms, only the event younger than 2 s is left. -/
theorem test_stale_discard :
    (State.resume { up with
      status := { up.status with timeBase := 30080 }
      keyq := { up.keyq with events := [⟨.make, 1, 1, 0, 26000⟩, ⟨.make, 2, 2, 0, 28080⟩, ⟨.make, 3, 3, 0, 29400⟩] } }).keyq =
      { up.keyq with events := [⟨.make, 3, 3, 0, 29400⟩], snapshotPending := true } := by decide +kernel

/-- R19, R180: the first frame after power-on carries 0; an empty NOTICE frame has the header, 4 bytes and the CRC. -/
theorem test_notice_bytes :
    (UpFrame.bytes ⟨.notice, 0, noticePayload { up.status with summary := 0x42, noticeMask := 0x07, timeBase := 0x12345 }⟩).take
      10 = [0x83, 0, 0, 0, 4, 0, 0x42, 0x07, 0x45, 0x23] := by decide +kernel

/-! ## Witnesses: the step, the reset and the link -/

theorem witness_StepRunsFrontCommand : ({ up with pending := [.frameEnd] } : State).pending = .frameEnd :: [] := rfl

/-- Two pixels still to clear. -/
def clearing : Job := clearJob 3 { pane3 with width := 2, height := 1 }

theorem witness_EmptyQueueRunsOn :
    (({ up with resetLine := true } : State).pending = [] ∧ ({ up with resetLine := true } : State).resetLine = true) ∧
    ((holding .ctrl (bytesOf ⟨0x2F, 0, []⟩)).pending = [] ∧
      stepsCalledFor (holding .ctrl (bytesOf ⟨0x2F, 0, []⟩)) ≠ []) ∧
    (up.pending = [] ∧ up.resetLine = false ∧ stepsCalledFor up = [] ∧ up.engine.holder ≠ .clearPass ∧
      up.engine.job = none) ∧
    (stepsCalledFor (up.setEngine .retention (some clearing)) = [] ∧
      (up.setEngine .retention (some clearing)).engine.holder ≠ .clearPass ∧
      (up.setEngine .retention (some clearing)).engine.job = some clearing) ∧
    (State.reset.pending = [] ∧ State.reset.resetLine = false ∧ stepsCalledFor State.reset = [] ∧
      State.reset.engine.holder = .clearPass ∧ (∀ n < 16, (State.reset.panes.get n).digest = .none) ∧
      State.reset.digest.running = none) := by decide +kernel

/-- The clear pass of a store with two pixels lit, cut after the first: the reset keeps the second. -/
theorem test_reset_cuts_clear_pass :
    leaves .resetAssert (State.clearUpTo { State.reset with store := [(0, 5), (1, 7)] } 1)
      (fun t => decide (t.store = [(1, 7)]) && decide (t.engine.cleared = 0)) = true := by decide +kernel

theorem witness_ResetLineAndClearPass :
    (({ up with resetLine := true } : State).resetLine = true ∧ (Instr.frameEnd).wellFormed = true) ∧
    (State.reset.resetLine = false ∧ State.reset.engine.holder = .clearPass ∧
      (∀ n < 16, (State.reset.panes.get n).digest = .none) ∧ State.reset.digest.running = none) := by decide +kernel

/-- The raw contact has opened, 50 ms ago. -/
def lifted : State := { up with link := { up.link with contact := .opened, stability := 50 } }
/-- The raw contact has closed, 20 ms ago, while the presence was OPEN. -/
def seated : State :=
  { up with link := { up.link with state := .absent, contact := .closed, presence := .opened, stability := 20 } }

theorem witness_LinkLosses :
    (lifted.resetLine = false ∧ lifted.link.contact = .opened ∧ lifted.link.presence = .closed ∧
      50 ≤ lifted.link.stability) ∧
    (up.resetLine = false ∧ up.link.laneLock = true ∧ up.link.state.alive = true ∧ up.link.presence = .closed) ∧
    (seated.link.laneLock = true ∧ ¬ (seated.link.state.alive = true ∧ seated.link.presence = .closed)) := by decide +kernel

/-- A frame in assembly. -/
def assembling (buffer : List Byte) : State := { up with link := { up.link with assembly := .assembling buffer } }

theorem witness_AssemblyGathersBytes :
    (up.resetLine = false ∧ up.link.laneLock = true ∧ up.link.state ≠ .absent ∧ up.link.assembly = .waiting) ∧
    ((assembling []).link.assembly = .assembling [] ∧ ([] : List Byte).length < 5) ∧
    (5 ≤ [1#8, 0, 0, 0, 0].length ∧ headerLength ([1, 0, 0, 0, 0] ++ [4]) ≤ 1024 ∧
      headerLength ([1, 0, 0, 0, 0] ++ [4]) % 4 = 0 ∧
      [1#8, 0, 0, 0, 0].length + 1 < 8 + headerLength ([1, 0, 0, 0, 0] ++ [4])) ∧
    (5 ≤ [1#8, 0, 0, 0, 4].length ∧ 1024 < headerLength ([1, 0, 0, 0, 4] ++ [4])) ∧
    headerLength ([1, 0, 0, 0, 2] ++ [0]) % 4 ≠ 0 := by decide +kernel

def emptyCtrl : List Byte := [2, 0, 41, 0, 0, 0]

theorem witness_CrcCheckAndResume :
    emptyCtrl.length = 6 ∧ ([] : List Byte).length ≤ 1024 ∧ ([] : List Byte).length % 4 = 0 ∧
    halfOfBytes (emptyCtrl.getD 4 0) (emptyCtrl.getD 5 0) = BitVec.ofNat 16 ([] : List Byte).length ∧
    (emptyCtrl ++ [0x34]) ++ [0x12] = emptyCtrl ++ [] ++ bytesOfHalf 0x1234 ∧ 0x1234#16 ≠ crc16 (emptyCtrl ++ []) ∧
    ∃ stored b, stored ++ [b] = emptyCtrl ++ [] ++ bytesOfHalf (crc16 (emptyCtrl ++ [])) ∧
      (assembling stored).link.assembly = .assembling stored ∧ (assembling stored).link.state = .up ∧
      ({ assembling stored with link := { (assembling stored).link with state := .quiet } } : State).link.state ≠ .up := by
  refine ⟨by decide, by decide, by decide, by decide, by decide, by decide +kernel,
    emptyCtrl ++ [(crc16 emptyCtrl).extractLsb' 0 8], (crc16 emptyCtrl).extractLsb' 8 8, ?_, rfl, rfl, by decide⟩
  simp [bytesOfHalf]

def longFrame (n : Nat) : RxFrame := ⟨.draw, 0, 0, List.replicate n 0⟩

theorem witness_ClassificationAndAdmission :
    (({ up with link := { up.link with expected := none } } : State).link.expected = none) ∧
    (up.link.expected = some 41 ∧ (41#8).toNat = 41 ∧ (41 + 256 - 41) % 256 = 0 ∧ (168 + 256 - 41) % 256 = 127 ∧
      (169 + 256 - 41) % 256 = 128) ∧
    (8192 < occupancy (List.replicate 8 (longFrame 1016)) + ((longFrame 0).payload.length + 8)) ∧
    16 ≤ (List.replicate 16 (longFrame 0)).length ∧
    (occupancy (List.replicate 7 (longFrame 1016)) + ((longFrame 1016).payload.length + 8) ≤ 8192 ∧
      (List.replicate 7 (longFrame 1016)).length < 16) ∧
    up.power.device = .active ∧ (up.setDevice .doze).power.device = .doze ∧
    (up.setDevice .entering).power.device = .entering := by decide +kernel

/-- UP, with the silence timeout just reached. -/
def silent : State := { up with link := { up.link with silence := 1000 } }

def setLinkRecord : Record := ⟨0x2B, 1, [3]⟩

theorem witness_PresenceClosesAndSilence :
    (up.link.contact ≠ .opened) ∧
    (seated.resetLine = false ∧ seated.link.contact = .closed ∧ seated.link.presence = .opened ∧
      20 ≤ seated.link.stability) ∧
    (silent.resetLine = false ∧ silent.link.state = .up ∧ silent.link.silenceTimeout ≤ silent.link.silence) ∧
    (Accepted (holding .ctrl (bytesOf setLinkRecord)) (frame .ctrl (bytesOf setLinkRecord)) setLinkRecord 0x2B ∧
      [50, 200, 1000, 4000][byteAt setLinkRecord 0 0]? = some 4000 ∧
      ¬ ((holding .ctrl (bytesOf setLinkRecord)).link.state = .up ∧
        4000 ≤ (holding .ctrl (bytesOf setLinkRecord)).link.silence)) :=
  ⟨by decide, by decide, by decide, accepted (by decide) (by decide) (by decide), by decide, by decide⟩

/-- SET_LINK with the silence timer already past the new timeout. -/
theorem witness_PresenceClosesAndSilence_late :
    Accepted { holding .ctrl (bytesOf ⟨0x2B, 1, [0]⟩) with link := silent.link } (frame .ctrl (bytesOf ⟨0x2B, 1, [0]⟩))
      ⟨0x2B, 1, [0]⟩ 0x2B ∧ silent.link.state = .up ∧ 50 ≤ silent.link.silence :=
  ⟨⟨⟨rfl, 0, [], rfl, rfl, by decide⟩, rfl, rfl, by decide, by decide⟩, by decide, by decide⟩

/-! ## Witnesses: the frame decoder -/

/-- The decoder is IDLE with this frame at the head of the queue. -/
def waiting (f : RxFrame) : State := { up with rxq := { frames := [f], flow := .go } }
def syncFrame : RxFrame := ⟨.ctrl, 1, 0, []⟩
/-- The decoder is in SYNC_WAIT with this frame in hand. -/
def syncing (f : RxFrame) : State := { waiting f with dec := { up.dec with state := .syncWait } }

theorem witness_FrameTakeAndSyncWait :
    ((waiting syncFrame).resetLine = false ∧ (waiting syncFrame).dec.state = .idle ∧
      (waiting syncFrame).rxq.frames = syncFrame :: [] ∧ (waiting syncFrame).power.device = .active ∧
      (waiting syncFrame).engine.holder ≠ .banner ∧ (waiting syncFrame).engine.holder ≠ .clearPass) ∧
    syncFrame.flags.getLsbD 0 = true ∧ syncFrame.payload = [] ∧ up.panel.state.scanning = false ∧
    PanelState.scanning (.blankFrames 0) = true ∧
    ((longFrame 4).flags.getLsbD 0 = false ∧ (longFrame 4).payload ≠ []) ∧
    ((syncing syncFrame).dec.state = .syncWait ∧ (syncing syncFrame).rxq.frames = syncFrame :: []) ∧
    ((syncing (longFrame 4)).rxq.frames = longFrame 4 :: [] ∧ (longFrame 4).payload ≠ []) ∧
    up.dec.state ≠ .syncWait := by decide +kernel

theorem witness_UnknownRecordIsSkipped :
    (AtRecord (holding .draw (bytesOf ⟨0, 9, []⟩)) (frame .draw (bytesOf ⟨0, 9, []⟩)) ⟨0, 9, []⟩ ∧
      ¬ (0x10 ≤ (0#8).toNat ∧ (0#8).toNat ≤ 0x15) ∧ ¬ (0x20 ≤ (0#8).toNat ∧ (0#8).toNat ≤ 0x31) ∧
      ¬ (0x38 ≤ (0#8).toNat ∧ (0#8).toNat ≤ 0x3C)) ∧
    (AtRecord (holding .ctrl (bytesOf ⟨0x16, 9, [1]⟩)) (frame .ctrl (bytesOf ⟨0x16, 9, [1]⟩)) ⟨0x16, 9, [1]⟩ ∧
      ¬ (0x10 ≤ (0x16#8).toNat ∧ (0x16#8).toNat ≤ 0x15)) :=
  ⟨⟨at_record (by decide), by decide, by decide, by decide⟩, at_record (by decide), by decide⟩

/-- Two records, of which the decoder is on the first. -/
def twoRecords : State := holding .ctrl (bytesOf ⟨0x31, 0, []⟩ ++ bytesOf ⟨0x31, 1, []⟩)

theorem witness_WalkAdvancesOrBreaks :
    (twoRecords.dec.state.cursor? = some 0 ∧ twoRecords.rxq.frames = [frame .ctrl [0x31, 0, 0, 0, 0x31, 0, 1, 0]] ∧
      0 + 4 + 4 * (⟨0x31, 0, []⟩ : Record).body.length < 8) ∧
    (8 ≤ 4 + 4 + 4 * (⟨0x31, 1, []⟩ : Record).body.length) ∧
    ((holding .ctrl [0x20, 1, 7, 0]).dec.state = .walking 0 ∧
      (frame .ctrl [0x20, 1, 7, 0]).payload.drop 0 = 0x20 :: 1 :: 7 :: 0 :: [] ∧ ([] : List Byte).length < 4 * (1#8).toNat) := by
  decide +kernel

theorem witness_RecordsAreRefused :
    (AtRecord (holding .ctrl (bytesOf ⟨0x15, 2, [0]⟩)) (frame .ctrl (bytesOf ⟨0x15, 2, [0]⟩)) ⟨0x15, 2, [0]⟩ ∧
      (0x15 : Byte) = DrawKind.keymove.code) ∧
    (AtRecord (holding .draw (bytesOf ⟨0x3C, 2, []⟩)) (frame .draw (bytesOf ⟨0x3C, 2, []⟩)) ⟨0x3C, 2, []⟩ ∧
      0x38 ≤ (0x3C#8).toNat ∧ (0x3C#8).toNat ≤ 0x3C) ∧
    (AtRecord (holding .ctrl (bytesOf ⟨0x31, 2, [0]⟩)) (frame .ctrl (bytesOf ⟨0x31, 2, [0]⟩)) ⟨0x31, 2, [0]⟩ ∧
      lengthMatches ⟨0x31, 2, [0]⟩ = false) ∧
    (AtRecord (holding .ctrl (bytesOf ⟨0x20, 2, [40, 0, 0, 0]⟩)) (frame .ctrl (bytesOf ⟨0x20, 2, [40, 0, 0, 0]⟩))
        ⟨0x20, 2, [40, 0, 0, 0]⟩ ∧
      lengthMatches ⟨0x20, 2, [40, 0, 0, 0]⟩ = true ∧ fieldsInRange ⟨0x20, 2, [40, 0, 0, 0]⟩ = false) :=
  ⟨⟨at_record (by decide), rfl⟩, ⟨at_record (by decide), by decide, by decide⟩, ⟨at_record (by decide), by decide⟩,
    at_record (by decide), by decide, by decide⟩

/-! ## Witnesses: control records at the ends of their ranges -/

/-- The record is accepted at the head of a CTRL frame. -/
def AcceptedRecord (r : Record) : Prop :=
  Accepted (holding .ctrl (bytesOf r)) (frame .ctrl (bytesOf r)) r r.kind

theorem acceptedRecord {r : Record}
    (h : (decide (readRecord (bytesOf r) = some (.whole r)) && lengthMatches r && fieldsInRange r) = true) :
    AcceptedRecord r := by
  simp only [Bool.and_eq_true, decide_eq_true_eq] at h
  exact accepted h.1.1 h.1.2 h.2

theorem witness_LoadPaneWritesEntry :
    AcceptedRecord ⟨0x21, 0, [0x0301010F, 0x05FF04FF, 0x00010001, 20]⟩ ∧ AcceptedRecord ⟨0x21, 0, [0x0000000F, 0, 0, 0]⟩ ∧
      AcceptedRecord ⟨0x21, 0, [0x00000100, 0, 0, 0]⟩ :=
  ⟨acceptedRecord (by decide), acceptedRecord (by decide), acceptedRecord (by decide)⟩

theorem witness_ColourLoadsWrite :
    AcceptedRecord ⟨0x22, 0, [0x000001FF, 0x03FF0400, 0x00010000]⟩ ∧ AcceptedRecord ⟨0x22, 0, [0]⟩ ∧
      AcceptedRecord ⟨0x23, 0, [3, 0x800001FF, 0x7FFF0200, 0]⟩ :=
  ⟨acceptedRecord (by decide), acceptedRecord (by decide), acceptedRecord (by decide)⟩

theorem witness_KeyboardRecords :
    AcceptedRecord ⟨0x24, 0, [0x00017F01, 0x00060241]⟩ ∧ AcceptedRecord ⟨0x2A, 0, [0x0000FFFF]⟩ ∧
      AcceptedRecord ⟨0x2C, 0, [0x00000300]⟩ :=
  ⟨acceptedRecord (by decide), acceptedRecord (by decide), acceptedRecord (by decide)⟩

/-- The clauses of the lamps as driven: in DOZE, in a reset, and by each link state. -/
theorem witness_KeyboardRecords_lamps :
    (up.setDevice .doze).power.device = .doze ∧ ({ up with resetLine := true } : State).resetLine = true ∧
    (up.resetLine = false ∧ up.power.device ≠ .doze ∧ up.link.state = .up) ∧
    (State.reset.resetLine = false ∧ State.reset.power.device ≠ .doze ∧ State.reset.link.state = .absent) ∧
    ((up.setLink .quiet).resetLine = false ∧ (up.setLink .quiet).power.device ≠ .doze ∧
      (up.setLink .quiet).link.state = .quiet) := by decide +kernel

theorem witness_LoadPenAndSettings :
    AcceptedRecord ⟨0x20, 0, [0x0100001F, 0x00000103, 0, 0]⟩ ∧ AcceptedRecord ⟨0x25, 0, [255, 7]⟩ ∧
      AcceptedRecord ⟨0x26, 0, [1024]⟩ ∧ AcceptedRecord ⟨0x29, 0, [255]⟩ ∧ AcceptedRecord ⟨0x2E, 0, [255]⟩ :=
  ⟨acceptedRecord (by decide), acceptedRecord (by decide), acceptedRecord (by decide), acceptedRecord (by decide),
    acceptedRecord (by decide)⟩

theorem witness_SoftResetAndClearCounts : AcceptedRecord ⟨0x30, 0, []⟩ ∧ AcceptedRecord ⟨0x31, 0, []⟩ :=
  ⟨acceptedRecord (by decide), acceptedRecord (by decide)⟩

/-- The accepted record does not depend on the panel, the power state or the digest unit. -/
theorem accepted_elsewhere {s t : State} {f : RxFrame} {r : Record} {c : Byte} (h : Accepted s f r c)
    (h1 : t.resetLine = s.resetLine) (h2 : t.dec = s.dec) (h3 : t.rxq = s.rxq) : Accepted t f r c := by
  obtain ⟨⟨ha, hb⟩, hc⟩ := h
  exact ⟨⟨by rw [h1, ha], by rw [h2, h3]; exact hb⟩, hc⟩

/-- The part with its panel in this state, on a record. -/
def withPanel (p : PanelState) (r : Record) : State :=
  { holding .ctrl (bytesOf r) with panel := { up.panel with state := p } }

theorem witness_ViewAndModesPendOrApply :
    (AcceptedRecord ⟨0x27, 0, [0x05FF04FF, 1280, 0x05FF04FF, 0x7F010101]⟩ ∧ up.panel.state.scanning = false) ∧
    (∀ a < 8, AcceptedRecord ⟨0x28, 0, [BitVec.ofNat 32 a, 0x031F031F]⟩) ∧
    (∀ r : Record, AcceptedRecord r → Accepted (withPanel .running r) (frame .ctrl (bytesOf r)) r r.kind) ∧
    PanelState.scanning .running = true := by
  refine ⟨⟨acceptedRecord (by decide), by decide⟩, ?_, fun r h => accepted_elsewhere h rfl rfl rfl, by decide⟩
  intro a ha
  exact acceptedRecord (by revert a; decide)

theorem witness_PanelRequestsAndPhases :
    (∀ p : PanelState, Accepted (withPanel p ⟨0x28, 0, [0, 0]⟩) (frame .ctrl (bytesOf ⟨0x28, 0, [0, 0]⟩)) ⟨0x28, 0, [0, 0]⟩
      0x28 ∧ Accepted (withPanel p ⟨0x28, 0, [1, 0]⟩) (frame .ctrl (bytesOf ⟨0x28, 0, [1, 0]⟩)) ⟨0x28, 0, [1, 0]⟩ 0x28) ∧
    (PanelState.starting (.powerUp 119) = true ∧ PanelState.starting (.blankFrames 1) = true ∧
      PanelState.isStopping (.stopping 0) = true) ∧
    ((withPanel (.powerUp 120) ⟨0x30, 0, []⟩).resetLine = false ∧ 120 ≤ 120) ∧
    ((withPanel (.stopping 20) ⟨0x30, 0, []⟩).panel.state = .stopping 20 ∧ 20 ≤ 20) := by
  refine ⟨fun p => ⟨?_, ?_⟩, by decide, by decide, by decide⟩
  · exact accepted_elsewhere (accepted (by decide) (by decide) (by decide)) rfl rfl rfl
  · exact accepted_elsewhere (accepted (by decide) (by decide) (by decide)) rfl rfl rfl

theorem witness_FrameEndEffects :
    (withPanel .running ⟨0x30, 0, []⟩).resetLine = false ∧ (withPanel .running ⟨0x30, 0, []⟩).panel.state = .running ∧
    (withPanel .running ⟨0x30, 0, []⟩).panel.actual = (withPanel .running ⟨0x30, 0, []⟩).panel.target ∧
    ((withPanel (.blankFrames 0) ⟨0x30, 0, []⟩).panel.state = .blankFrames 0) ∧
    ((withPanel (.blankFrames 1) ⟨0x30, 0, []⟩).panel.state = .blankFrames 1 ∧
      (withPanel (.blankFrames 1) ⟨0x30, 0, []⟩).panel.request ≠ .stop) := by decide +kernel

/-! ## Witnesses: questions and digests -/

/-- Slot 0 holds a finished reply, the other three are free. -/
def oneFinished : Table Slot 4 := State.reset.dec.slots.set 0 (.finished 0x3C 1 .ok [] 0)
/-- All four slots hold finished replies. -/
def allFinished : Table Slot 4 := .ofFn 4 (fun n => .finished 0x3C (byte n) .ok [] n)

/-- The part on an ASK record, with these reply slots. -/
def asked (slots : Table Slot 4) (r : Record) : State :=
  { holding .ctrl (bytesOf r) with dec := { up.dec with state := .walking 0, slots := slots } }

theorem asked_at (slots : Table Slot 4) {r : Record} (h : readRecord (bytesOf r) = some (.whole r)) :
    AtRecord (asked slots r) (frame .ctrl (bytesOf r)) r := ⟨rfl, 0, [], rfl, rfl, h⟩

theorem witness_AskIsAnswered :
    AcceptedRecord ⟨0x38, 7, [1]⟩ ∧ AcceptedRecord ⟨0x3A, 7, [0x05FF0027, 0x0000FFFF]⟩ ∧
    AcceptedRecord ⟨0x3B, 7, [0x007F0104]⟩ ∧ AcceptedRecord ⟨0x3C, 7, []⟩ ∧
    (State.reset.dec.slots.get 0 = .free ∧ 0 < 4 ∧ ∀ m < 0, State.reset.dec.slots.get m ≠ .free) ∧
    (oneFinished.get 1 = .free ∧ 1 < 4 ∧ ∀ m < 1, oneFinished.get m ≠ .free) ∧
    LinkState.alive .quiet = true ∧ LinkState.alive .acquiring = false :=
  ⟨acceptedRecord (by decide), acceptedRecord (by decide), acceptedRecord (by decide), acceptedRecord (by decide),
    by decide, by decide, by decide, by decide⟩

theorem witness_AskIsRefused :
    (AtRecord (asked oneFinished ⟨0x3B, 7, [0x00100001]⟩) (frame .ctrl (bytesOf ⟨0x3B, 7, [0x00100001]⟩))
        ⟨0x3B, 7, [0x00100001]⟩ ∧ lengthMatches ⟨0x3B, 7, [0x00100001]⟩ = true ∧
      fieldsInRange ⟨0x3B, 7, [0x00100001]⟩ = false) ∧
    (AtRecord (asked oneFinished ⟨0x3C, 7, [0]⟩) (frame .ctrl (bytesOf ⟨0x3C, 7, [0]⟩)) ⟨0x3C, 7, [0]⟩ ∧
      lengthMatches ⟨0x3C, 7, [0]⟩ = false) ∧
    (AtRecord (asked oneFinished ⟨0x39, 7, [1]⟩) (frame .ctrl (bytesOf ⟨0x39, 7, [1]⟩)) ⟨0x39, 7, [1]⟩ ∧
      lengthMatches ⟨0x39, 7, [1]⟩ = true ∧ fieldsInRange ⟨0x39, 7, [1]⟩ = true ∧
      ({ asked oneFinished ⟨0x39, 7, [1]⟩ with
        digest := { up.digest with request := some ⟨2, 6, 2⟩ } } : State).digest.request.isSome = true) :=
  ⟨⟨asked_at _ (by decide), by decide, by decide⟩, ⟨asked_at _ (by decide), by decide⟩,
    asked_at _ (by decide), by decide, by decide, rfl⟩

theorem witness_SlotWaitAndGrant :
    (AtRecord (asked allFinished ⟨0x38, 7, [0]⟩) (frame .ctrl (bytesOf ⟨0x38, 7, [0]⟩)) ⟨0x38, 7, [0]⟩ ∧
      ∀ n < 4, allFinished.get n ≠ .free) ∧
    (({ asked oneFinished ⟨0x38, 7, [0]⟩ with
        dec := { up.dec with state := .slotWait 0, slots := oneFinished } } : State).dec.state = .slotWait 0 ∧
      oneFinished.get 3 = .free) :=
  ⟨⟨asked_at _ (by decide), by decide⟩, rfl, by decide⟩

/-- The request for an entry of a table: bytes 0 to 2 are table, layer and entry. -/
def tableRequest (table layer entry : Nat) : Record :=
  ⟨0x3B, 0, [wordOfBytes (byte table) (byte layer) (byte entry) 0]⟩

/-- The part with its panes 3 and 4, and a lamp in the last entry of layer 1. -/
def tabled : State :=
  { withPanes up with keys := { up.keys with keymap := up.keys.keymap.set 255 ⟨65, .lamp 6⟩ } }

theorem witness_TableAnswersAreLoadLayouts :
    byteAt (tableRequest 0 0 31) 0 0 = 0 ∧
    (byteAt (tableRequest 1 0 3) 0 0 = 1 ∧ byteAt (tableRequest 1 0 3) 0 2 = 3 ∧ 1 ≤ 3 ∧
      (tabled.panes.get 3).valid = true ∧ (tabled.panes.get 3).left + (tabled.panes.get 3).width ≤ 1280 ∧
      (tabled.panes.get 3).top + (tabled.panes.get 3).height ≤ 1536 ∧ (tabled.panes.get 3).shadeSet ≤ 3) ∧
    ((tabled.panes.get 0).valid = true ∧ (tabled.panes.get 0).left + (tabled.panes.get 0).width ≤ 1280 ∧
      (tabled.panes.get 0).top + (tabled.panes.get 0).height ≤ 1536 ∧ (tabled.panes.get 15).valid = false) ∧
    (byteAt (tableRequest 2 0 255) 0 0 = 2 ∧ (tabled.colour.palette.get 255).colour.red ≤ 1023 ∧
      (tabled.colour.palette.get 255).colour.green ≤ 1023 ∧ (tabled.colour.palette.get 255).colour.blue ≤ 1023) ∧
    (byteAt (tableRequest 3 0 3) 0 0 = 3 ∧ (tabled.colour.sets.get 3).gain = ⟨256, 256, 256⟩ ∧
      (tabled.colour.sets.get 3).offset = ⟨0, 0, 0⟩) ∧
    (byteAt (tableRequest 4 1 127) 0 0 = 4 ∧ byteAt (tableRequest 4 1 127) 0 1 * 128 + 127 = 255 ∧
      (tabled.keys.keymap.get 255).action = .lamp 6 ∧ (tabled.keys.keymap.get 0).action = .key) := by decide +kernel

/-- R178, Formats: the answer for shade set 2, with its clip flag in byte 1 of the entry's word 0. -/
theorem test_table_answer_shade :
    tableBody (tableRequest 3 0 2) { tabled with colour := { tabled.colour with
      sets := tabled.colour.sets.set 2 ⟨⟨128, 256, 511⟩, ⟨-1, 0, -512⟩, true⟩ } } =
      [0x00020003, 0x00000102, 0xFFFF0080, 0x00000100, 0xFE0001FF] := by decide +kernel

/-- Panes 3 and 4 wait for a run, in a request that names them. -/
def pendingPanes : State :=
  { up with
    panes := (up.panes.set 3 { pane3 with digest := .pending }).set 4 { pane4 with digest := .pending }
    digest := { work := .serving, pendingSet := (up.digest.pendingSet.set 3 true).set 4 true, running := none
                request := some ⟨0x18, 9, 0⟩ } }

theorem witness_DigestUnitGoesOn :
    (pendingPanes.digest.pendingSet.get 3 = true ∧ ∀ m < 3, pendingPanes.digest.pendingSet.get m = false) ∧
    (∀ m < 16, up.digest.pendingSet.get m = false) ∧ up.digest.request = none ∧
    (pendingPanes.digest.request = some ⟨0x18, 9, 0⟩ ∧ (0x18#16).getLsbD 4 = true ∧
      (pendingPanes.panes.get 4).digest = .pending) ∧
    (({ up with digest := { pendingPanes.digest with pendingSet := up.digest.pendingSet } } : State).digest.request =
        some ⟨0x18, 9, 0⟩ ∧
      ∀ n < 16, (0x18#16).getLsbD n = true → (up.panes.get n).digest ≠ .pending ∧ (up.panes.get n).digest ≠ .running) := by
  decide +kernel

theorem witness_DigestRequestAndRun :
    (AcceptedRecord ⟨0x39, 9, [0x0000FFFF]⟩ ∧ up.digest.request = none ∧ up.digest.running = none ∧
      up.dec.slots.get 0 = .free) ∧
    ((0xFFFF#16).getLsbD 0 = true ∧ (up.panes.get 0).valid = true ∧ (up.panes.get 0).digest = .none) ∧
    (up.panes.get 15).valid = false ∧
    (({ pendingPanes with digest := { pendingPanes.digest with running := some 15 } } : State).digest.running = some 15 ∧
      15 < 16) :=
  ⟨⟨acceptedRecord (by decide), by decide, by decide, by decide⟩, by decide, by decide, by decide, by decide⟩

theorem witness_TouchChangesDigestStates :
    (pane3.valid = true ∧ pane3.left ≤ 415 ∧ 415 < pane3.left + pane3.width ∧ pane3.top ≤ 239 ∧
      239 < pane3.top + pane3.height) ∧ ¬ (416 < pane3.left + pane3.width) ∧
    (({ withPanes up with digest := { up.digest with running := some 3 } } : State).digest.running = some 3 ∧
      pane3.contains 415 239 = true ∧ pane3.contains 416 239 = false) := by decide

/-! ## Witnesses: draw records -/

theorem witness_AluCombinesPlanes :
    ((0x0C#8).getLsbD 2 = (0x04#8).getLsbD 2 ∧ (0x97#8).getLsbD 2 = (0xFF#8).getLsbD 2) ∧
    State.reset.resetLine = false ∧ State.reset.engine.holder = .clearPass ∧ ∃ t, exec .clearPassEnd State.reset = .next t :=
  ⟨by decide, rfl, rfl, _, rfl⟩

theorem witness_StippleSelectsColumns :
    Pen.atReset.stipple = 0xFFFFFFFF#32 ∧ ({ Pen.atReset with stipple := 0#32 } : Pen).stipple = 0#32 := by decide

/-- Draw records in order of the check each meets: a body too short, pane 16, pane 5, data too short, pane 4, an empty size,
a rectangle beside its pane, and one that is drawn. -/
def shortFill : Record := ⟨0x10, 0, [3, 0]⟩
def pane16Clear : Record := ⟨0x11, 0, [16]⟩
def pane5Fill : Record := ⟨0x10, 0, [5, 0, 0x00010001]⟩
def shortGlyph : Record := ⟨0x12, 0, [3, 0, 0x00010021, 0]⟩
def shutFill : Record := ⟨0x10, 0, [4, 0, 0]⟩
def emptyFill : Record := ⟨0x10, 0, [3, 0, 0x00320000]⟩
def besideFill : Record := ⟨0x10, 0, [3, 320, 0x00010001]⟩
def lastMove : Record := ⟨0x14, 0, [3, 0x00C70000 + 319, 0x00010001, 0x05FF04FF]⟩

theorem witness_DrawChecksInOrder :
    (DrawAtCursor (drawing shortFill) (frame .draw (bytesOf shortFill)) shortFill .fill ∧
      ¬ shortFill.body.length = requiredWords .fill default shortFill.body) ∧
    (DrawAtCursor (drawing pane16Clear) (frame .draw (bytesOf pane16Clear)) pane16Clear .clear ∧
      fixedPartMatches .clear pane16Clear.body ∧ 15 < recPane pane16Clear.body) ∧
    (DrawAtCursor (drawing pane5Fill) (frame .draw (bytesOf pane5Fill)) pane5Fill .fill ∧
      ((drawing pane5Fill).panes.get (recPane pane5Fill.body)).valid = false) ∧
    (DrawAtCursor (drawing shortGlyph) (frame .draw (bytesOf shortGlyph)) shortGlyph .glyph ∧
      shortGlyph.body.length ≠ requiredWords .glyph (up.engine.pens.get (recPen shortGlyph.body)) shortGlyph.body) ∧
    (DrawAtCursor (drawing shutFill) (frame .draw (bytesOf shutFill)) shutFill .fill ∧
      ((drawing shutFill).panes.get (recPane shutFill.body)).access = .shut) ∧
    (DrawAtCursor (drawing emptyFill) (frame .draw (bytesOf emptyFill)) emptyFill .fill ∧ recW emptyFill.body = 0) ∧
    (DrawAtCursor (drawing besideFill) (frame .draw (bytesOf besideFill)) besideFill .fill ∧
      ∀ i j, ¬ kept .fill pane3 besideFill.body i j) := by
  refine ⟨⟨drawing_at (by decide) rfl, by decide⟩, ⟨drawing_at (by decide) rfl, ⟨?_, fun _ => rfl⟩, by decide⟩,
    ⟨drawing_at (by decide) rfl, by decide⟩, ⟨drawing_at (by decide) rfl, by decide⟩,
    ⟨drawing_at (by decide) rfl, by decide⟩, ⟨drawing_at (by decide) rfl, by decide⟩, drawing_at (by decide) rfl, ?_⟩
  · rintro (h | h) <;> cases h
  · intro i j h
    have h1 : recX besideFill.body = 320 := by decide
    have h2 : pane3.width = 320 := rfl
    simp only [kept, h1, h2] at h
    omega

theorem witness_DrawnRecordTakesEngine :
    DrawAtCursor (drawing lastMove) (frame .draw (bytesOf lastMove)) lastMove .move ∧
    fixedPartMatches .move lastMove.body ∧ recPane lastMove.body ≤ 15 ∧ recPen lastMove.body ≤ 31 ∧
    pane3 = (drawing lastMove).panes.get (recPane lastMove.body) ∧ pane3.valid = true ∧ pane3.access = .opened ∧
    lastMove.body.length = requiredWords .move ((drawing lastMove).engine.pens.get (recPen lastMove.body)) lastMove.body ∧
    kept .move pane3 lastMove.body 0 0 := by
  refine ⟨drawing_at (by decide) rfl, ⟨?_, fun _ => rfl⟩, by decide, by decide, by decide, rfl, rfl, rfl, ?_⟩
  · rintro (h | h) <;> cases h
  · unfold kept
    refine ⟨by decide, by decide, by decide, by decide, by decide, by decide, by decide, by decide, fun _ => by decide⟩

theorem up_panes_inStore : ∀ n < 16, ((withPanes up).panes.get n).inStore := by
  unfold Pane.inStore; decide +kernel

theorem drawing_sound (r : Record) : StoreSound (drawing r) :=
  ⟨rfl, fun _ h => absurd h (by simp [drawing, withPanes, holding, up, State.reset]),
    ⟨⟨rfl, rfl, rfl, rfl, rfl⟩, up_panes_inStore⟩, fun _ h => by cases h⟩

/-- The corner fill at work, `m` of its pixels painted by the milliseconds that passed. -/
def cornerJob : Job := rectangleJob .fill ((drawing cornerFill).engine.pens.get 2) pane3 cornerFill.body
def cornerStarted : State :=
  State.setEngine (State.count (drawing cornerFill) .clipped) .decoder (some cornerJob)
def cornerCarried (m : Nat) : State :=
  { cornerStarted.setEngine .decoder (some { cornerJob with todo := cornerJob.todo.drop m }) with
    store := (cornerStarted.paint cornerJob (cornerJob.todo.take m)).store }

theorem witness_DrawnRecordPaintsByPixelRule (m : Nat) :
    StoreSound (drawing cornerFill) ∧ DrawAtCursor (drawing cornerFill) (frame .draw (bytesOf cornerFill)) cornerFill .fill ∧
    exec (drawStep .fill) (drawing cornerFill) = .next cornerStarted ∧ cornerStarted.engine.holder = .decoder ∧
    cornerStarted.engine.job = some cornerJob ∧
    AtRecord (cornerCarried m) (frame .draw (bytesOf cornerFill)) cornerFill ∧ (cornerCarried m).engine.holder = .decoder ∧
    (cornerCarried m).engine.job = some { cornerJob with todo := cornerJob.todo.drop m } ∧
    (cornerCarried m).store = (cornerStarted.paint cornerJob (cornerJob.todo.take m)).store :=
  ⟨drawing_sound _, drawing_at (by decide) rfl, by rfl, rfl, rfl, ⟨rfl, 0, [], rfl, rfl, by decide⟩, rfl, rfl, rfl⟩

theorem witness_DrawnRecordTouchesPanes :
    StoreSound (drawing cornerFill) ∧ DrawAtCursor (drawing cornerFill) (frame .draw (bytesOf cornerFill)) cornerFill .fill ∧
    (∃ t, exec (drawStep .fill) (drawing cornerFill) = .next t ∧ t.engine.holder = .decoder) ∧
    (drawing cornerFill).digest.running = none ∧ (∀ n < 16, ((drawing cornerFill).panes.get n).digest ≠ .running) ∧
    ((drawing cornerFill).panes.get 3).contains 415 239 = true ∧ ((drawing cornerFill).panes.get 5).valid = false :=
  ⟨drawing_sound _, drawing_at (by decide) rfl, ⟨_, rfl, by decide +kernel⟩, rfl, by decide +kernel, by decide, by decide⟩

/-- The clause of a touched pane: the corner pixel of pane 3 is touched. -/
theorem witness_DrawnRecordTouchesPanes_pixel :
    touchesPixel (drawing cornerFill) .fill cornerFill.body 415 239 ∧ ((drawing cornerFill).panes.get 3).valid = true := by
  refine ⟨⟨?_, by decide +kernel, by decide +kernel⟩, rfl⟩
  unfold writes kept
  refine ⟨by decide, by decide, by decide, by decide, by decide, by decide, by decide, by decide, ?_⟩
  rintro (h | h) <;> cases h

/-! ## Witnesses: doze, retention and the banner -/

/-- ABSENT, with the doze timer at the doze delay. -/
def left : State :=
  { up with
    link := { up.link with state := .absent, contact := .opened, presence := .opened }
    power := { up.power with dozeTimer := 60000 } }

theorem witness_DozeEntryAndSetOutage :
    (left.resetLine = false ∧ left.power.device = .active ∧ left.link.state = .absent ∧
      left.power.dozeDelay ≤ left.power.dozeTimer) ∧
    (AcceptedRecord ⟨0x2F, 0, []⟩ ∧ up.power.device = .active ∧
      Accepted { holding .ctrl (bytesOf ⟨0x2F, 0, []⟩) with power := { up.power with device := .entering } }
        (frame .ctrl (bytesOf ⟨0x2F, 0, []⟩)) ⟨0x2F, 0, []⟩ 0x2F) ∧
    (up.panel.state = .off ∧ PanelState.starting (.blankFrames 0) = true ∧ PanelState.isStopping (.stopping 19) = true ∧
      (withPanel .running ⟨0x30, 0, []⟩).panel.state = .running) ∧
    (AcceptedRecord ⟨0x2D, 0, [0x00000303]⟩ ∧
      [250, 500, 1000, 2000][byteAt ⟨0x2D, 0, [0x00000303]⟩ 0 0]? = some 2000 ∧
      [10000, 30000, 60000, 300000][byteAt ⟨0x2D, 0, [0x00000303]⟩ 0 1]? = some 300000 ∧
      ¬ (up.power.device = .active ∧ up.link.state = .absent ∧ 300000 ≤ up.power.dozeTimer)) ∧
    (Accepted { left with
        rxq := { frames := [frame .ctrl (bytesOf ⟨0x2D, 0, [0x00000200]⟩)], flow := .go }
        dec := { up.dec with state := .walking 0 } } (frame .ctrl (bytesOf ⟨0x2D, 0, [0x00000200]⟩))
        ⟨0x2D, 0, [0x00000200]⟩ 0x2D ∧ 60000 ≤ left.power.dozeTimer) :=
  ⟨by decide, ⟨acceptedRecord (by decide), rfl, accepted_elsewhere (accepted (by decide) (by decide) (by decide)) rfl rfl rfl⟩,
    by decide, ⟨acceptedRecord (by decide), by decide, by decide, by decide⟩,
    ⟨⟨rfl, 0, [], rfl, rfl, by decide⟩, rfl, rfl, by decide, by decide⟩, by decide⟩

/-- ENTERING, with nothing else under way and panes 0, 3 and 4 valid. -/
def entering : State := { withPanes up with power := { up.power with device := .entering } }

theorem witness_RetentionPass :
    (entering.resetLine = false ∧ entering.power.device = .entering ∧ entering.rxq.frames = [] ∧
      entering.dec.state = .idle ∧ entering.engine.holder = .free ∧ entering.digest.work = .idle ∧
      (entering.panes.get 0).valid = true ∧ ∀ m < 0, (entering.panes.get m).valid = false) ∧
    ((entering.setWork (.pass 3)).digest.work = .pass 3 ∧ 3 < 16 ∧
      ((entering.panes.get 4).valid = true ∧ ∀ l, 3 < l → l < 4 → (entering.panes.get l).valid = false)) ∧
    ((entering.setWork (.pass 4)).digest.work = .pass 4 ∧ ∀ m, 4 < m → m < 16 → (entering.panes.get m).valid = false) := by
  refine ⟨by decide, ⟨rfl, by decide, by decide, fun l h1 h2 => by omega⟩, rfl, fun m h1 h2 => ?_⟩
  have h : ∀ m < 16, 4 < m → (entering.panes.get m).valid = false := by decide
  exact h m h2 h1

/-- WAKING after the oscillator wait, with doze digests in panes 3 and 4. -/
def checking (work : DigestWork) : State :=
  { up with
    power := { up.power with device := .waking, oscillator := some 4 }
    digest := { up.digest with work := work }
    panes := (up.panes.set 3 { pane3 with width := 1, height := 1, dozeDigest := some 0xE1F0 }).set 4
      { pane4 with width := 1, height := 1, dozeDigest := some 0 } }

theorem witness_DozeAbortAndWake :
    ((entering.setWork (.pass 3)).digest.work = .pass 3) ∧ (∀ n, entering.digest.work ≠ .pass n) ∧
    ((checking .idle).resetLine = false ∧ (checking .idle).power.device = .waking ∧
      (checking .idle).power.oscillator = some 4 ∧ ((checking .idle).panes.get 3).dozeDigest ≠ none ∧
      ∀ m < 3, ((checking .idle).panes.get m).dozeDigest = none) ∧
    (∀ n < 16, (up.panes.get n).dozeDigest = none) :=
  ⟨rfl, fun _ h => (by cases h), by decide, by decide⟩

theorem witness_RetentionCheckAndClearing :
    ((checking (.check 3 [])).resetLine = false ∧ (checking (.check 3 [])).digest.work = .check 3 [] ∧
      (checking (.check 3 [])).engine.holder = .free ∧
      ((checking (.check 3 [])).panes.get 3).dozeDigest =
        some (paneDigest (checking (.check 3 [])).store ((checking (.check 3 [])).panes.get 3)) ∧
      ((checking (.check 3 [])).panes.get 4).dozeDigest ≠ none ∧
      ((checking (.check 4 [])).panes.get 4).dozeDigest ≠
        some (paneDigest (checking (.check 4 [])).store ((checking (.check 4 [])).panes.get 4)) ∧
      ∀ m < 16, 4 < m → ((checking (.check 4 [])).panes.get m).dozeDigest = none) := by decide +kernel

/-- The clearing of lost pane 3 is under way; `more` panes follow. -/
def clearingPane3 (more : List Nat) : State :=
  (checking (.clearing (3 :: more))).setEngine .retention
    (some (clearJob 3 ((checking (.clearing (3 :: more))).panes.get 3)))

theorem clearingPane3_sound (more : List Nat) :
    StoreSound (clearingPane3 more) := by
  refine ⟨rfl, fun _ h => absurd h (by simp [clearingPane3, checking, up, State.reset]), ⟨⟨rfl, rfl, rfl, rfl, rfl⟩, ?_⟩, ?_⟩
  · have h : ∀ n < 16, ((checking .idle).panes.get n).inStore := by unfold Pane.inStore; decide +kernel
    exact h
  · intro job h
    injection h with h
    subst h
    have h2 : ∀ o ∈ (clearJob 3 ((checking .idle).panes.get 3)).todo,
        0 ≤ (clearJob 3 ((checking .idle).panes.get 3)).left + (o.1 : Int) ∧
        (clearJob 3 ((checking .idle).panes.get 3)).left + (o.1 : Int) < 1280 ∧
        0 ≤ (clearJob 3 ((checking .idle).panes.get 3)).top + (o.2 : Int) ∧
        (clearJob 3 ((checking .idle).panes.get 3)).top + (o.2 : Int) < 1536 := by decide +kernel
    exact h2

/-- The same clearing with `k` of its pixels cleared by the milliseconds that passed. -/
def clearingCarried (more : List Nat) (k : Nat) : State :=
  let s := clearingPane3 more
  let job := clearJob 3 (s.panes.get 3)
  (s.paint job (job.todo.take k)).setEngine .retention (some { job with todo := job.todo.drop k })

theorem witness_RetentionClearing (more : List Nat) (job : Job) (h : job = clearJob 3 ((clearingPane3 more).panes.get 3)) :
    StoreSound (clearingPane3 more) ∧ (clearingPane3 more).engine.job = some job ∧
    (clearingCarried more 0).resetLine = false ∧ (clearingCarried more 0).engine.holder = .retention ∧
    (clearingCarried more 0).digest.work = .clearing (3 :: more) ∧
    (clearingCarried more 0).engine.job = some { job with todo := job.todo.drop 0 } ∧
    (clearingCarried more 0).store = ((clearingPane3 more).paint job (job.todo.take 0)).store ∧
    (clearingCarried more 0).digest.running = none ∧ (clearingPane3 more).digest.running = none ∧
    (clearingCarried more 0).panes = ((clearingPane3 more).paint job (job.todo.take 0)).panes ∧
    ∀ m < 16, ((clearingPane3 more).panes.get m).digest ≠ .running := by
  subst h
  have hr : ∀ m < 16, ((checking .idle).panes.get m).digest ≠ .running := by decide +kernel
  exact ⟨clearingPane3_sound more, rfl, rfl, rfl, rfl, rfl, rfl, rfl, rfl, rfl, hr⟩

/-- All of the one pixel is cleared already. -/
theorem witness_RetentionClearing_carried :
    (clearingCarried [] 1).resetLine = false ∧ (clearingCarried [] 1).engine.holder = .retention ∧
    (clearingCarried [] 1).digest.work = .clearing [3] ∧ (clearingCarried [] 1).digest.running = none ∧
    (clearingCarried [] 1).engine.job.map Job.todo = some [] := by decide +kernel

theorem witness_DozePixelLossChangesOnePixel :
    (Memory.wf (up.setDevice .doze).store = true ∧ (up.setDevice .doze).resetLine = false ∧
      (up.setDevice .doze).power.device = .doze ∧ 1279 < 1280 ∧ 1535 < 1536) ∧ up.power.device ≠ .doze := by decide

/-- An outage whose timer stands at the banner delay. -/
def outage : State := { left with power := { up.power with outage := some 500 } }

/-- A banner of one FILL of one pixel, due, with the panel RUNNING. -/
def bannerDue : State :=
  { left with
    panel := { up.panel with state := .running }
    power := { up.power with
      outage := some 500
      bannerDue := true
      bannerStore := up.power.bannerStore.setRun 0 [0x00000310, 3, 0, 0x00010001]
      bannerLength := 16 } }

theorem witness_BannerPlay :
    (outage.resetLine = false ∧ outage.power.outage = some 500 ∧ outage.power.bannerDelay ≤ 500 ∧
      outage.power.bannerPlayed = false ∧ outage.power.bannerDue = false) ∧
    (bannerDue.resetLine = false ∧ bannerDue.power.bannerDue = true ∧ bannerDue.engine.holder = .free ∧
      bannerDue.power.device = .active ∧ bannerDue.rxq.frames = [] ∧ bannerDue.dec.state = .idle ∧
      bannerDue.panel.state ≠ .off ∧ bannerDue.panel.state.isStopping = false ∧ bannerDue.power.bannerLength ≠ 0) ∧
    up.power.bannerLength ≤ 0 ∧
    (0 < bannerDue.power.bannerLength ∧
      readRecord (((bannerDue.power.bannerStore.toList.flatMap bytesOfWord).take bannerDue.power.bannerLength).drop 0) =
        some (.whole ⟨0x10, 0, [3, 0, 0x00010001]⟩) ∧ (0x10 : Byte) = DrawKind.fill.code ∧
      isDrawCode 0x10 = true ∧ isDrawCode 0x30 = false) ∧
    (({ bannerDue with
        power := { bannerDue.power with bannerCursor := some 0 }
        engine := { up.engine with holder := .banner } } : State).engine.job = none) := by decide +kernel

/-! ## Witnesses: keyboard, upstream and display -/

theorem witness_KeyScanDebounces :
    (1 ≤ ({ up with keys := { up.keys with sinceScan := 1 } } : State).keys.sinceScan ∧ up.power.device ≠ .doze) ∧
    ((pressed [3, 5, 19, 21]).getLsbD (0 * 16 + 3) = true ∧ (pressed [3, 5, 19, 21]).getLsbD (0 * 16 + 5) = true ∧
      (pressed [3, 5, 19, 21]).getLsbD (1 * 16 + 3) = true ∧ (pressed [3, 5, 19, 21]).getLsbD (1 * 16 + 5) = true) ∧
    ((0#128).getLsbD 3 = up.keys.accepted.get 3 ∧ (pressed [3]).getLsbD 3 ≠ up.keys.accepted.get 3 ∧
      up.keys.counters.get 3 + 1 < up.keys.debounce) ∧
    (∀ d1 n1, ¬ ((0#128).getLsbD (d1 * 16 + n1) = true)) := by
  refine ⟨by decide, by decide, by decide +kernel, fun _ _ => by simp⟩

def heldKey : HeldKey := ⟨37, 65, 0, .key⟩
/-- Key 37 is held. -/
def holdingKey : State := { up with keys := { up.keys with held := [heldKey] } }

theorem witness_MakesAndBreaks :
    ((∃ h ∈ [(⟨1, 0, 0, .fn⟩ : HeldKey)], h.action = .fn) ∧ ∀ h ∈ holdingKey.keys.held, h.action ≠ .fn) ∧
    ((up.keys.keymap.get 37).action ≠ .ignore ∧ (up.keys.keymap.get 37).action = .key ∧ up.keys.held.length < 10 ∧
      10 ≤ (List.replicate 10 heldKey).length) ∧
    (∀ h ∈ up.keys.held, h.position ≠ 37) ∧
    (holdingKey.keys.held = [] ++ heldKey :: [] ∧ (∀ g ∈ ([] : List HeldKey), g.position ≠ heldKey.position) ∧
      heldKey.action ≠ .fn ∧ heldKey.action ≠ .ignore) ∧
    (31 < 32 ∧ 32 ≤ (List.replicate 32 (⟨.make, 65, 37, 0, 0⟩ : KeyEvent)).length) := by decide +kernel

theorem witness_UpstreamSources :
    (up.resetLine = false ∧ up.link.state = .up ∧ up.up.transmitter = .idle ∧ up.up.flowPending = false ∧
      up.keyq.events = []) ∧
    ({ up with up := { up.up with flowPending := true } } : State).up.flowPending = true ∧
    ({ up with keyq := { up.keyq with events := List.replicate 9 ⟨.make, 65, 37, 0, 0⟩ } } : State).keyq.events ≠ [] ∧
    (oneFinished.get 0 = .finished 0x3C 1 .ok [] 0 ∧ ∀ m < 4, m ≠ 0 → (oneFinished.get m).isFinished = true →
      0 < (oneFinished.get m).order) ∧
    ((∀ n < 4, (up.dec.slots.get n).isFinished = false) ∧
      ({ up with status := { up.status with noticePending := true } } : State).status.noticePending = true) := by
  decide +kernel

theorem witness_ShadeArithmetic :
    (1023 ≤ 1023 ∧ 511 ≤ 511 ∧ (-512 : Int) ≤ -512 ∧ (511 : Int) ≤ 511) ∧
    ((gained 0 511 : Int) + (-512) < 0 ∧ 1023 < (gained 1023 511 : Int) + 511 ∧
      (0 ≤ (gained 1023 256 : Int) + 0 ∧ (gained 1023 256 : Int) + 0 ≤ 1023)) := by decide

/-- Pair (3, 255) alone waits; set 3 has an offset of 511. -/
def recomputing : State :=
  { up with colour := { up.colour with
    recompute := up.colour.recompute.set 1023 true
    sets := up.colour.sets.set 3 { ShadeSet.atReset with offset := ⟨511, 0, 0⟩ } } }

theorem up_recompute {k : Nat} (h : k < 1024) : up.colour.recompute.get k = false := by
  show (ColourUnit.atReset.recompute).get k = false
  simp [ColourUnit.atReset, Table.get_ofFn, h]

theorem witness_RecomputeStepWritesFirstPair :
    (recomputing.resetLine = false ∧ recomputing.colour.recompute.get 1023 = true ∧
      (∀ m < 1023, recomputing.colour.recompute.get m = false)) ∧
    ((recomputing.colour.palette.get 255).fixed = false ∧
      saturates (offsetted (recomputing.colour.palette.get 255).colour.red 256 511) = true) ∧
    saturates (offsetted (up.colour.palette.get 255).colour.red 256 0) = false ∧
    ∀ k < 1024, up.colour.recompute.get k = false := by
  refine ⟨⟨rfl, by simp [recomputing], fun m hm => ?_⟩, by decide +kernel, by decide +kernel, fun k hk => up_recompute hk⟩
  show (up.colour.recompute.set 1023 true).get m = false
  rw [Table.get_set_ne _ _ (by omega)]
  exact up_recompute (by omega)

theorem witness_OriginAndSplit : 759 < upsideDown.split ∧ upsideDown.split ≤ 760 := by decide

theorem witness_OrientationIsOneToOne :
    (1279 < 1280 ∧ 799 < 800) ∧ (1279 < (if upsideDown.swap then 800 else 1280)) ∧
      799 < (if upsideDown.swap then 1280 else 800) := by decide

/-- Worked from R127's own words: the first position of a frame, the last of line 0, the first of line 1 and the last of line
799. -/
theorem test_raster_order :
    rasterPosition 0 = (0, 0) ∧ rasterPosition 1279 = (1279, 0) ∧ rasterPosition 1280 = (0, 1) ∧
      rasterPosition 1023999 = (1279, 799) := by decide

/-- A frame of which some positions have been sent. -/
def scanned (n : Nat) : State := { withPanel .running ⟨0x30, 0, []⟩ with scan := { up.scan with scanned := n } }

/-- A frame end sends what is left and leaves the scan at the first position of the next frame; PANEL STOP cuts the frame
short with no frame end. -/
theorem test_frame_ends_and_is_cut :
    leaves .frameEnd (scanned 5) (fun t => decide (t.scanPosition = some (0, 0)) && decide (t.scan.frameCounter = 1)) = true ∧
    ((scanned 5).stopPanel.scanPosition = none ∧ (scanned 5).stopPanel.scan.scanned = 0 ∧
      (scanned 5).stopPanel.scan.frameCounter = 0) := by decide +kernel

theorem witness_PanelOutputAtPosition :
    ((scanned 1023999).panel.state.scanning = true ∧ (scanned 1023999).scan.scanned < 1280 * 800 ∧
      rasterPosition ((scanned 1023999).scan.scanned + 0) = (1279, 799)) ∧
    ((scanned 1024000).panel.state.scanning = true ∧ (scanned 1024000).scan.scanned = 1280 * 800) ∧
    (up.panel.state ≠ .running) ∧
    (up.power.device ≠ .doze ∧ (withPanel .running ⟨0x30, 0, []⟩).panel.state = .running ∧ up.panel.display = .show ∧
      up.panel.area = .full ∧
      (1279, 799) = storePixelOf up.scan.active (logicalOf up.scan.active 1279 799).1 (logicalOf up.scan.active 1279 799).2 ∧
      (up.panes.get 0).valid = true ∧ (up.panes.get 0).contains 1279 799 = true ∧
      ∀ m < 16, 0 < m → ¬ ((up.panes.get m).valid = true ∧ (up.panes.get m).contains 1279 799 = true)) := by
  decide +kernel

/-! ## Witnesses: the invariants, in the state with the link UP -/

/-- The part with a frame in hand at its first record and a step waiting. -/
def atWork : State := { holding .ctrl (bytesOf ⟨0x31, 0, []⟩) with pending := [.clearCounts] }

theorem atWork_steps : ∃ t, step atWork = .next t := ⟨_, rfl⟩

theorem witness_StepsKeepStoreSound : StoreSound atWork ∧ ∃ t, step atWork = .next t := by
  refine ⟨⟨rfl, fun _ h => absurd h (by simp [atWork, holding, up, State.reset]), ⟨⟨rfl, rfl, rfl, rfl, rfl⟩, ?_⟩,
    fun _ h => by cases h⟩, atWork_steps⟩
  have h : ∀ n < 16, (up.panes.get n).inStore := by unfold Pane.inStore; decide +kernel
  exact h

theorem witness_StepsKeepLinkSound :
    LinkSound atWork ∧ AssemblySound atWork ∧ QueueSound atWork ∧ ∃ t, step atWork = .next t :=
  ⟨⟨by decide, by decide, by decide⟩, fun _ h => (by cases h), ⟨by decide, by decide, by decide, by decide, by decide⟩,
    atWork_steps⟩

theorem atWork_decoder : DecoderSound atWork := by
  refine ⟨by decide, ?_, fun _ h => by cases h⟩
  intro c h
  injection h with h
  subst h
  exact ⟨_, _, rfl, by decide, by decide⟩

theorem witness_StepsKeepDecoderSound : DecoderSound atWork ∧ ∃ t, step atWork = .next t := ⟨atWork_decoder, atWork_steps⟩

theorem atWork_work : WorkSound atWork := by
  constructor
  case serving => decide
  case doze => decide
  case away => decide
  case pass => intro n h; cases h
  case check => intro n l h; cases h
  case clearing => intro l h; cases h
  case retention => intro h; cases h
  case oscillator => decide
  case waking => decide
  case banner => decide
  case decoder => intro h; cases h
  case clearPass => intro h; cases h
  case job => decide
  case held => decide

theorem atWork_clear : ClearSound atWork := ⟨by decide, fun _ => rfl, fun h => by cases h⟩

theorem witness_StepsKeepWorkSound : WorkSound atWork ∧ ClearSound atWork ∧ ∃ t, step atWork = .next t :=
  ⟨atWork_work, atWork_clear, atWork_steps⟩

theorem witness_StepsKeepDigestSound :
    WorkSound atWork ∧ DecoderSound atWork ∧ DigestSound atWork ∧ ∃ t, step atWork = .next t := by
  refine ⟨atWork_work, atWork_decoder, ?_, atWork_steps⟩
  constructor
  case pending => decide +kernel
  case running => decide +kernel
  case runningPane => intro n h; cases h
  case valid => decide +kernel
  case atWork => decide
  case goesOn => decide +kernel
  case mask => intro q h; cases h
  case slot =>
    have h : ∀ m < 4, atWork.dec.slots.get m = .free := by decide
    rintro m hm ⟨k, t, hs⟩
    rw [h m hm] at hs
    cases hs

/-- A frame of which five positions have been sent, with a step waiting. -/
def midFrame : State :=
  { withPanel .running ⟨0x31, 0, []⟩ with scan := { up.scan with scanned := 5 }, pending := [.clearCounts] }

theorem witness_StepsKeepPanelSound :
    (PanelSound atWork ∧ WorkSound atWork ∧ DozingPanel atWork ∧ ∃ t, step atWork = .next t) ∧
    PanelSound midFrame ∧ midFrame.panel.state.scanning = true ∧ ∃ t, step midFrame = .next t ∧
      t.panel.state.scanning = true ∧ t.scan.frameCounter = midFrame.scan.frameCounter := by
  refine ⟨⟨?_, atWork_work, by unfold DozingPanel; decide, atWork_steps⟩, ?_, rfl, _, rfl, rfl, rfl⟩
  all_goals
    constructor
    case blank => intro n h; cases h
    case active => unfold View.inRange; decide
    case pending => intro v h; cases h
    case area => exact True.intro
    case nextArea => intro a h; cases h
    all_goals decide

theorem unshaded {c : Nat} (h : c ≤ 1023) : panelValue false c 256 0 = min 63 ((c + 8) / 16) := by
  have h1 : gained c 256 = c := by unfold gained; omega
  have h2 : saturated (offsetted c 256 0) = c := by
    unfold saturated offsetted
    rw [h1]
    (repeat' split) <;> omega
  simp [panelValue, h2, reduced]

theorem witness_StepsKeepColourSound : ColourSound atWork ∧ ∃ t, step atWork = .next t := by
  have hp : ∀ i < 256, atWork.colour.palette.get i = PaletteEntry.atReset i := fun i hi => Table.get_ofFn _ hi
  have hs : ∀ k < 1024, atWork.colour.shaded.get k = shadedAtReset k := fun k hk => Table.get_ofFn _ hk
  have hx : ∀ n < 4, atWork.colour.sets.get n = ShadeSet.atReset := fun n hn => Table.get_ofFn _ hn
  refine ⟨⟨fun i hi => ?_, by decide, by decide, fun k hk => ?_, fun k hk _ => ?_⟩, atWork_steps⟩
  · rw [hp i hi]; simp only [PaletteEntry.atReset]; omega
  · rw [hs k hk]; simp only [shadedAtReset]; omega
  · have hc : k % 256 * 4 + k % 256 / 64 ≤ 1023 := by omega
    rw [hs k hk, hp _ (by omega), hx _ (by omega)]
    simp only [shadedAtReset, shadedValues, PaletteEntry.atReset, ShadeSet.atReset, unshaded hc]

theorem witness_StepsKeepKeysAndCounters : KeysSound atWork ∧ CountersSound atWork ∧ ∃ t, step atWork = .next t :=
  ⟨⟨by decide, by decide, by decide, fun _ h => (by cases h), by decide, by decide +kernel⟩, by unfold CountersSound; decide,
    atWork_steps⟩

end Sys2Proof.Tests
end

/-! # What every step keeps of the link, the frame assembly and the receive queue -/

namespace Sys2Proof.Machine

set_option Elab.async false

/-! ## From the parts of a step to the step -/

/-- What holds whatever waits in the queue, and is kept by the part's running on and by every command, every step
keeps. -/
theorem step_keeps {P : State → Prop} (hqueue : ∀ s rest, P s → P { s with pending := rest })
    (hidle : ∀ s, P s → P s.idle) (hexec : ∀ c s t, P s → exec c s = .next t → P t) {s t : State} (hs : P s)
    (h : step s = .next t) : P t := by
  unfold step at h
  split at h
  · injection h with h
    exact h ▸ hidle s hs
  · exact hexec _ _ _ (hqueue _ _ hs) h

/-- What the joining of steps and the parts of a passing millisecond keep, the part's running on keeps. -/
theorem idle_keeps {P : State → Prop} (hqueue : ∀ s cs, P s → P (s.queueSteps cs))
    (htick : ∀ s, P s → P s.engineRuns.scanRuns.timersRun) {s : State} (hs : P s) : P s.idle := by
  unfold State.idle State.tick
  split
  · exact hs
  · split
    · exact hqueue _ _ (htick s hs)
    · exact hqueue _ _ hs

/-- What a PANEL record's refusal and effect keep, its taking keeps. -/
theorem takePanel_keeps {P : State → Prop} {a : PanelAction} {effect : Record → State → State} {s : State} (hs : P s)
    (hcontrol : P (takeControl 0x28 panelCheck effect s)) : P (takePanel a effect s) := by
  rcases takePanel_cases a effect s with h | h <;> rw [h]
  · exact hs
  · exact hcontrol

/-- What the refusal of a draw record, the noting of its outcome and the walk keep, taking it keeps. -/
theorem takeDraw_keeps {P : State → Prop} {kind : DrawKind} {s : State} (hs : P s)
    (hrefuse : ∀ f r e, P ((s.refuseRecord f r e).advance r))
    (hdrawn : ∀ o (r : Record) q job, P ((s.noteOutcome o r.kind r.tag q).setEngine .decoder (some job)))
    (hdone : ∀ o (r : Record) q, P ((s.noteOutcome o r.kind r.tag q).advance r)) : P (takeDraw kind s) := by
  rcases takeDraw_cases kind s with h | ⟨f, r, -, -, ⟨-, h⟩ | ⟨-, -, o, -, ⟨job, cut, -, h⟩ | ⟨-, h⟩⟩⟩ <;> rw [h]
  · exact hs
  · exact hrefuse f r _
  · exact hdrawn o r _ job
  · exact hdone o r _

/-- What the refusal of an ASK record, its answer and the wait for a slot keep, taking it keeps. -/
theorem takeAsk_keeps {P : State → Prop} {code : Byte} {answer : Nat → RxFrame → Record → State → State} {s : State}
    (hs : P s) (hrefuse : ∀ f r e, P ((s.refuseRecord f r e).advance r))
    (hanswer : ∀ n f r, P ((answer n f r (s.setSlot n (.reserved r.kind r.tag))).advance r))
    (hwait : ∀ c, P (s.setDecoder (.slotWait c))) : P (takeAsk code answer s) := by
  rcases takeAsk_cases code answer s with h | ⟨f, r, -, -, ⟨-, h⟩ | ⟨-, n, -, h⟩ | ⟨-, -, c, -, h⟩⟩ <;> rw [h]
  · exact hs
  · exact hrefuse f r _
  · exact hanswer n f r
  · exact hwait c

/-- The answer of a kind code is that of ASK_STATUS, of ASK_DIGEST, one by a check and a body, or none. -/
theorem answerOf_cases (code : Byte) :
    answerOf code = answerStatus ∨ answerOf code = answerDigest ∨
      (∃ check body, answerOf code = answerWith check body) ∨ answerOf code = fun _ _ _ s => s := by
  unfold answerOf
  split
  · exact .inl rfl
  · exact .inr (.inl rfl)
  · exact .inr (.inr (.inl ⟨_, _, rfl⟩))
  · exact .inr (.inr (.inl ⟨_, _, rfl⟩))
  · exact .inr (.inr (.inl ⟨_, _, rfl⟩))
  · exact .inr (.inr (.inr rfl))

/-! ## What every command outside the link port keeps -/

/-- The commands of the link port, and the reset line, which act on the link itself. -/
def movesLink : Instr → Bool
  | .resetAssert | .resetRelease | .presenceContactChange _ | .presenceClosed | .presenceOpen | .laneLockGained
  | .laneLockLost | .startSymbol | .dataSymbol _ | .silenceTimeout | .setLink => true
  | _ => false

/-- A property of the link, the receive queue, the reply slots and the pending NOTICE alone, kept by the operations
through which the rest of the part acts on them. -/
structure LinkInvariant (P : State → Prop) : Prop where
  congr : ∀ {s t}, P s → t.link = s.link → t.rxq = s.rxq → t.dec.slots = s.dec.slots →
    t.status.noticePending = s.status.noticePending → P t
  setFlag : ∀ {s}, P s → ∀ f, P (s.setFlag f)
  clearSummary : ∀ {s}, P s → P s.clearSummary
  finishReply : ∀ {s}, P s → ∀ n k t e b, P (s.finishReply n k t e b)
  vacateSlot : ∀ {s}, P s → ∀ n, P (s.setSlot n .free)
  reserveSlot : ∀ {s}, P s → ∀ n k t, P (s.setSlot n (.reserved k t))
  finishFrame : ∀ {s}, P s → P s.finishFrame

namespace LinkInvariant

variable {P : State → Prop} (hP : LinkInvariant P) {s t : State}

include hP

/-- Where the four parts stay as they are, so does the property. -/
theorem same (h : P s) (hl : t.link = s.link := by rfl) (hq : t.rxq = s.rxq := by rfl)
    (hd : t.dec.slots = s.dec.slots := by rfl) (hn : t.status.noticePending = s.status.noticePending := by rfl) : P t :=
  hP.congr h hl hq hd hn

/-! ### The walk (R22 to R26) -/

theorem walkFrom (h : P s) (c : Nat) : P (s.walkFrom c) := by
  rcases walkFrom_cases s c with ⟨-, hw⟩ | ⟨f, rest, -, ⟨-, hw⟩ | ⟨-, hw⟩⟩ <;> rw [hw]
  · exact h
  · exact hP.finishFrame h
  · exact hP.same h

theorem advance (h : P s) (r : Record) : P (s.advance r) := by
  unfold State.advance
  split
  · exact hP.walkFrom h _
  · exact h

theorem releaseSync (h : P s) : P s.releaseSync := by
  unfold State.releaseSync
  split
  · exact hP.walkFrom h 0
  all_goals exact h

/-! ### The panel (R127 to R131) -/

theorem stopPanel (h : P s) : P s.stopPanel := hP.releaseSync (hP.same h)

theorem requestStop (h : P s) : P s.requestStop := by
  unfold State.requestStop
  split
  case h_4 => exact hP.stopPanel h
  all_goals exact hP.same h

theorem reachRunning (h : P s) : P s.reachRunning := by
  have h1 : P (State.setFlag { s with panel := { s.panel with state := .running } } .panelReady) :=
    hP.setFlag (hP.same h) _
  unfold State.reachRunning
  dsimp only
  split
  · exact hP.stopPanel h1
  · exact h1

theorem reachOff (h : P s) : P s.reachOff := by
  have h1 : P (State.setFlag { s with panel := { s.panel with state := .off } } .panelReady) :=
    hP.setFlag (hP.same h) _
  unfold State.reachOff
  dsimp only
  split
  · exact hP.same h1
  · exact h1

theorem panelAtFrameEnd (h : P s) : P s.panelAtFrameEnd := by
  unfold State.panelAtFrameEnd
  split
  · split
    · exact hP.same h
    · exact hP.reachRunning h
  all_goals exact hP.same h

/-! ### Refusals and the taking of records (R27 to R35) -/

theorem refuse (h : P s) (k t : Byte) (q : Option Byte) (e : Reason) : P (s.refuse k t q e) :=
  hP.same (hP.setFlag (hP.same h) .refused)

theorem noteOutcome (h : P s) (o : DrawOutcome) (k t : Byte) (q : Option Byte) : P (s.noteOutcome o k t q) := by
  unfold State.noteOutcome
  split
  · exact hP.refuse h _ _ _ _
  · exact hP.same h
  · exact h
  · exact hP.same h
  · split
    · exact hP.same h
    · exact h

theorem takeControl (h : P s) {code : Byte} {check : Record → Option Reason} {effect : Record → State → State}
    (he : ∀ r, P (effect r s)) : P (takeControl code check effect s) :=
  takeControl_keeps h (fun _ r _ _ _ => hP.advance (hP.refuse h _ _ _ _) r) (fun _ r _ _ _ _ => hP.advance (he r) r)

theorem takePanel (h : P s) {a : PanelAction} {effect : Record → State → State} (he : ∀ r, P (effect r s)) :
    P (takePanel a effect s) := takePanel_keeps h (hP.takeControl h he)

theorem takeDraw (h : P s) (kind : DrawKind) : P (takeDraw kind s) :=
  takeDraw_keeps h (fun _ r _ => hP.advance (hP.refuse h _ _ _ _) r)
    (fun o _ _ _ => hP.same (hP.noteOutcome h o _ _ _))
    (fun o r _ => hP.advance (hP.noteOutcome h o _ _ _) r)

/-! ### The digest unit and the touch rule (R50, R54, R93 to R100) -/

theorem examineRequest (h : P s) : P s.examineRequest := by
  unfold State.examineRequest
  split
  · exact h
  · split
    · exact hP.finishReply (hP.same h) _ _ _ _ _
    · exact h

theorem digestGoOn (h : P s) : P s.digestGoOn := by
  unfold State.digestGoOn
  split
  · exact hP.same h
  · exact hP.examineRequest h

theorem abandonRun (h : P s) : P s.abandonRun := hP.digestGoOn (hP.same h)

theorem touchWhere (h : P s) (hit : Pane → Bool) : P (s.touchWhere hit) := by
  unfold State.touchWhere
  dsimp only
  split
  · exact hP.abandonRun (hP.same h)
  · exact hP.same h

theorem touch (h : P s) (x y : Nat) : P (s.touch x y) := hP.touchWhere h _

theorem acceptDigestRequest (h : P s) (q : DigestRequest) : P (s.acceptDigestRequest q) := by
  unfold State.acceptDigestRequest
  dsimp only
  split
  · exact hP.digestGoOn (hP.same h)
  · exact hP.same h

theorem forgetPane (h : P s) (n : Nat) : P (s.forgetPane n) := by
  unfold State.forgetPane
  dsimp only
  split
  · exact hP.abandonRun (hP.same h)
  · split
    · exact hP.examineRequest (hP.same h)
    · exact hP.same h

theorem softReset (h : P s) : P s.softReset := by
  have h1 : P s.softResetDigest := by
    unfold State.softResetDigest
    split
    · exact hP.same (hP.vacateSlot h _)
    · exact hP.same h
  exact hP.same (hP.clearSummary h1)

/-! ### Answers (R33 to R35) -/

theorem answerWith (h : P s) (check : Record → Option Reason) (body : Record → State → List Word) (n : Nat)
    (f : RxFrame) (r : Record) : P (answerWith check body n f r s) := by
  unfold Machine.answerWith
  split
  · exact hP.finishReply (hP.refuse h _ _ _ _) _ _ _ _ _
  · exact hP.finishReply h _ _ _ _ _

theorem answerStatus (h : P s) (n : Nat) (f : RxFrame) (r : Record) : P (answerStatus n f r s) := by
  have h1 := hP.answerWith h askStatusCheck (fun _ => statusBody) n f r
  unfold Machine.answerStatus
  dsimp only
  split
  · exact hP.clearSummary h1
  · exact h1

theorem answerDigest (h : P s) (n : Nat) (f : RxFrame) (r : Record) : P (answerDigest n f r s) := by
  unfold Machine.answerDigest
  split
  · exact hP.finishReply (hP.refuse h _ _ _ _) _ _ _ _ _
  · exact hP.acceptDigestRequest h _

theorem answerOf (h : P s) (code : Byte) (n : Nat) (f : RxFrame) (r : Record) : P (answerOf code n f r s) := by
  rcases answerOf_cases code with e | e | ⟨check, body, e⟩ | e <;> rw [e]
  · exact hP.answerStatus h n f r
  · exact hP.answerDigest h n f r
  · exact hP.answerWith h check body n f r
  · exact h

theorem takeAsk (h : P s) {code : Byte} {answer : Nat → RxFrame → Record → State → State}
    (ha : ∀ {u}, P u → ∀ n f r, P (answer n f r u)) : P (takeAsk code answer s) :=
  takeAsk_keeps h (fun _ r _ => hP.advance (hP.refuse h _ _ _ _) r)
    (fun n f r => hP.advance (ha (hP.reserveSlot h n _ _) n f r) r) (fun _ => hP.same h)

/-! ### The draw engine (R60 to R66) -/

theorem paintPixel (h : P s) (job : Job) (o : Nat × Nat) : P (s.paintPixel job o) := by
  unfold State.paintPixel
  dsimp only
  split
  · exact hP.touch (hP.same h) _ _
  · exact hP.same h

theorem paint (h : P s) (job : Job) (offsets : List (Nat × Nat)) : P (s.paint job offsets) := by
  unfold State.paint
  induction offsets generalizing s with
  | nil => exact h
  | cons o rest ih => exact ih (hP.paintPixel h job o)

theorem finishJob (h : P s) (job : Job) : P (s.finishJob job) := by
  have h1 := hP.paint h job job.todo
  unfold State.finishJob
  dsimp only
  split
  · exact hP.same h1
  · exact h1

theorem clearUpTo (h : P s) (hi : Nat) : P (s.clearUpTo hi) := by
  unfold State.clearUpTo
  exact hP.touchWhere (hP.same h) _

/-! ### Outage and power control (R101 to R106, R156 to R170) -/

theorem enterEntering (h : P s) : P s.enterEntering := hP.requestStop (hP.same h)

theorem enterDoze (h : P s) : P s.enterDoze := hP.requestStop (hP.same h)

theorem wake (h : P s) : P s.wake := hP.congr h (by simp) (by simp) (by simp) (by simp)

theorem abortDoze (h : P s) : P s.abortDoze := hP.congr h (by simp) (by simp) (by simp) (by simp)

theorem setDevice (h : P s) (d : Device) : P (s.setDevice d) := hP.same h

/-- The panel remembered on is restarted, and the doze timer with it. -/
theorem restart (h : P s) : P s.restartRemembered.restartDozeTimer := hP.congr h (by simp) (by simp) (by simp) (by simp)

theorem endCheck (h : P s) (anyLost : Bool) : P (s.endCheck anyLost) := by
  have h1 : P ((s.dropDozeDigests).setWork .idle) := hP.same h
  unfold State.endCheck
  refine hP.restart (hP.setFlag (hP.setDevice ?_ _) _)
  split
  · exact hP.setFlag h1 _
  · exact h1

theorem checkMade (h : P s) (lost : List Nat) : P (s.checkMade lost) := by
  unfold State.checkMade
  split
  · exact hP.endCheck h false
  · exact hP.same h

theorem bannerRead (h : P s) (cursor : Nat) : P (s.bannerRead cursor) := by
  unfold State.bannerRead
  split
  · exact hP.same h
  · split
    · exact hP.same h
    next kind r _ => exact hP.same (hP.noteOutcome h (examineDraw kind s.engine.pens s.panes r.body) r.kind r.tag none)

/-! ### The key scanner and the colour unit (R115, R116, R137 to R151) -/

theorem queueKey (h : P s) (e : KeyEvent) : P (s.queueKey e) := by
  unfold State.queueKey
  split
  · exact hP.setFlag (hP.same h) _
  · exact hP.same h

theorem makeAction (h : P s) (a : KeyAction) (e : KeyEvent) : P (s.makeAction a e) := by
  unfold State.makeAction
  split
  · exact hP.queueKey h e
  · exact hP.queueKey (hP.same h) e
  all_goals exact h

theorem processMake (h : P s) (p : Nat) : P (s.processMake p) := by
  unfold State.processMake
  refine hP.wake ?_
  split
  · exact h
  · split
    · exact hP.same h
    · exact hP.makeAction (hP.same h) _ _

theorem setHeld (h : P s) (held : List HeldKey) : P (s.setHeld held) := hP.same h

theorem processBreak (h : P s) (p : Nat) : P (s.processBreak p) := by
  unfold State.processBreak
  split
  · exact h
  · refine hP.setHeld ?_ _
    split
    · exact hP.queueKey h _
    · exact h

theorem setClip (h : P s) (set : Nat) : P (s.setClip set) := hP.setFlag (hP.same h) _

theorem recomputePair (h : P s) (k : Nat) : P (s.recomputePair k) := by
  unfold State.recomputePair
  dsimp only
  split
  · exact hP.setClip (hP.same h) _
  · exact hP.same h

/-! ### The part's running on -/

theorem engineRuns (h : P s) : P s.engineRuns := by
  unfold State.engineRuns
  dsimp only
  split
  · exact hP.same (hP.clearUpTo h _)
  · split
    · exact h
    next job _ => exact hP.same (hP.paint h job _)

theorem idle (hlater : ∀ {u : State}, P u → ∀ a b,
      P { u with link := { u.link with stability := a, silence := b } }) (h : P s) : P s.idle := by
  refine idle_keeps (fun _ _ h => hP.same h) (fun u hu => ?_) h
  have h1 : P u.engineRuns.scanRuns := hP.congr (hP.engineRuns hu) (by simp) (by simp) (by simp) (by simp)
  exact hP.same (hlater h1 _ _)

/-! ### The commands -/

theorem clearPassEnd (h : P s) (hx : execClearPassEnd s = .next t) : P t := by
  unfold execClearPassEnd at hx
  exact onEvent_keeps hx h fun _ _ => hP.same (hP.clearUpTo h _)

theorem frameTake (h : P s) (hx : execFrameTake s = .next t) : P t := by
  unfold execFrameTake at hx
  refine onEvent_keeps hx h fun _ _ => ?_
  split
  · exact hP.same h
  · exact hP.walkFrom h 0

theorem slotGranted (h : P s) (hx : execSlotGranted s = .next t) : P t := by
  unfold execSlotGranted at hx
  refine live_keeps hx h fun _ => ?_
  split
  · split
    · exact hP.advance (hP.answerOf (hP.reserveSlot (hP.same h) _ _ _) _ _ _ _) _
    · exact h
  all_goals exact h

theorem unknownRecord (h : P s) (hx : execUnknownRecord s = .next t) : P t := by
  unfold execUnknownRecord at hx
  refine live_keeps hx h fun _ => ?_
  split
  · split
    · exact h
    · exact hP.advance (hP.same h) _
  · exact h

theorem brokenRecord (h : P s) (hx : execBrokenRecord s = .next t) : P t := by
  unfold execBrokenRecord at hx
  refine onEvent_keeps hx h fun _ _ => ?_
  split
  · exact hP.finishFrame (hP.same h)
  all_goals exact h

theorem drawComplete (h : P s) (hx : execDrawComplete s = .next t) : P t := by
  unfold execDrawComplete at hx
  refine onEvent_keeps hx h fun _ _ => ?_
  split
  next job f r _ _ =>
    have h1 : P ((s.finishJob job).setEngine .free none) := hP.same (hP.finishJob h job)
    exact hP.advance h1 r
  · exact h

theorem setOutage (h : P s) (hx : execSetOutage s = .next t) : P t := by
  unfold execSetOutage at hx
  refine live_keeps hx h fun _ => hP.takeControl h fun r => ?_
  have hlate : ∀ {u : State}, P u → P (if dozeExpired u then u.enterEntering else u) := by
    intro u hu
    split
    · exact hP.enterEntering hu
    · exact hu
  refine hlate ?_
  split
  · exact hP.congr h (by simp) (by simp) (by simp) (by simp)
  · exact hP.same h

theorem digestRunEnd (h : P s) (hx : execDigestRunEnd s = .next t) : P t := by
  unfold execDigestRunEnd at hx
  refine live_keeps hx h fun _ => ?_
  split
  · exact hP.digestGoOn (hP.same h)
  · exact h

theorem retentionPassStart (h : P s) (hx : execRetentionPassStart s = .next t) : P t := by
  unfold execRetentionPassStart at hx
  refine onEvent_keeps hx h fun _ _ => ?_
  split
  · exact hP.same h
  · exact hP.enterDoze h

theorem retentionPassPaneDone (h : P s) (hx : execRetentionPassPaneDone s = .next t) : P t := by
  unfold execRetentionPassPaneDone at hx
  refine live_keeps hx h fun _ => ?_
  split
  · dsimp only
    split
    · exact hP.same h
    · exact hP.enterDoze (hP.same h)
  all_goals exact h

theorem oscillatorWaitEnd (h : P s) (hx : execOscillatorWaitEnd s = .next t) : P t := by
  unfold execOscillatorWaitEnd at hx
  refine onEvent_keeps hx h fun _ _ => ?_
  dsimp only
  split
  · exact hP.same h
  · exact hP.endCheck (hP.same h) false

theorem retentionCheckPaneDone (h : P s) (hx : execRetentionCheckPaneDone s = .next t) : P t := by
  unfold execRetentionCheckPaneDone at hx
  refine onEvent_keeps hx h fun _ _ => ?_
  split
  · dsimp only
    have h1 : ∀ b (n : Nat) v, P (if b = true then s.setDigestState n v else s) := by
      intro b n v
      split
      · exact hP.same h
      · exact h
    split
    · exact hP.same (h1 _ _ _)
    · exact hP.checkMade (h1 _ _ _) _
  all_goals exact h

theorem retentionClearPaneDone (h : P s) (hx : execRetentionClearPaneDone s = .next t) : P t := by
  unfold execRetentionClearPaneDone at hx
  refine onEvent_keeps hx h fun _ _ => ?_
  split
  next rest job _ _ =>
    have h1 := hP.paint h job job.todo
    dsimp only
    split
    · exact hP.endCheck (hP.same h1) true
    · exact hP.same h1
  · exact h

theorem bannerGrant (h : P s) (hx : execBannerGrant s = .next t) : P t := by
  unfold execBannerGrant at hx
  refine onEvent_keeps hx h fun _ _ => ?_
  dsimp only
  split
  · exact hP.same h
  · exact hP.bannerRead (hP.same h) 0

theorem bannerRecordDone (h : P s) (hx : execBannerRecordDone s = .next t) : P t := by
  unfold execBannerRecordDone at hx
  refine onEvent_keeps hx h fun _ _ => ?_
  split
  · have h1 : P (match s.engine.job with
        | some job => s.finishJob job
        | none => s) := by
      split
      · exact hP.finishJob h _
      · exact h
    dsimp only
    split
    · exact hP.bannerRead h1 _
    · exact hP.same h1
  · exact h

theorem frameEnd (h : P s) (hx : execFrameEnd s = .next t) : P t := by
  unfold execFrameEnd at hx
  exact onEvent_keeps hx h fun _ _ => hP.releaseSync (hP.panelAtFrameEnd (hP.same h))

theorem keyScan {raw : BitVec 128} (h : P s) (hx : execKeyScan raw s = .next t) : P t := by
  unfold execKeyScan at hx
  refine onEvent_keeps hx h fun _ _ => ?_
  dsimp only
  split
  · exact hP.same h
  · have hbreaks : ∀ {u : State}, P u → ∀ l : List Nat, P (l.foldl State.processBreak u) := fun hu l =>
      List.foldlRecOn l _ hu fun _ hb p _ => hP.processBreak hb p
    have hmakes : ∀ {u : State}, P u → ∀ l : List Nat, P (l.foldl State.processMake u) := fun hu l =>
      List.foldlRecOn l _ hu fun _ hb p _ => hP.processMake hb p
    exact hmakes (hbreaks (hP.same h) _) _

theorem replyFrameStart (h : P s) (hx : execReplyFrameStart s = .next t) : P t := by
  unfold execReplyFrameStart at hx
  refine onEvent_keeps hx h fun _ _ => ?_
  split
  · split
    · exact hP.vacateSlot (hP.same h) _
    all_goals exact h
  · exact h

theorem recomputeStep (h : P s) (hx : execRecomputeStep s = .next t) : P t := by
  unfold execRecomputeStep at hx
  refine live_keeps hx h fun _ => ?_
  split
  · exact hP.recomputePair h _
  · exact h

theorem dozePixelLoss {x y : Nat} {v : Byte} (h : P s) (hx : execDozePixelLoss x y v s = .next t) : P t := by
  unfold execDozePixelLoss at hx
  split at hx
  · exact onEvent_keeps hx h fun _ _ => hP.same h
  · cases hx

theorem powerUpEnd (h : P s) (hx : execPowerUpEnd s = .next t) : P t := by
  unfold execPowerUpEnd at hx
  exact onEvent_keeps hx h fun _ _ => hP.same h

theorem flowSymbolSend (h : P s) (hx : execFlowSymbolSend s = .next t) : P t := by
  unfold execFlowSymbolSend at hx
  exact onEvent_keeps hx h fun _ _ => hP.same h

theorem keysFrameStart (h : P s) (hx : execKeysFrameStart s = .next t) : P t := by
  unfold execKeysFrameStart at hx
  exact onEvent_keeps hx h fun _ _ => hP.same h

theorem noticeFrameStart (h : P s) (hx : execNoticeFrameStart s = .next t) : P t := by
  unfold execNoticeFrameStart at hx
  exact onEvent_keeps hx h fun _ _ => hP.clearSummary (hP.same h)

theorem upstreamFrameEnd (h : P s) (hx : execUpstreamFrameEnd s = .next t) : P t := by
  unfold execUpstreamFrameEnd at hx
  exact live_keeps hx h fun _ => hP.same h

/-- Every command that does not act on the link itself keeps such a property. -/
theorem exec {c : Instr} (hc : movesLink c = false) (h : P s) (hx : exec c s = .next t) : P t := by
  cases c with
  | resetAssert | resetRelease | presenceContactChange | presenceClosed | presenceOpen | laneLockGained
  | laneLockLost | startSymbol | dataSymbol | silenceTimeout | setLink => cases hc
  | clearPassEnd => exact hP.clearPassEnd h hx
  | frameTake => exact hP.frameTake h hx
  | slotGranted => exact hP.slotGranted h hx
  | unknownRecord => exact hP.unknownRecord h hx
  | brokenRecord => exact hP.brokenRecord h hx
  | fill | clear | glyph | planes | move | keymove => exact live_keeps hx h fun _ => hP.takeDraw h _
  | drawComplete => exact hP.drawComplete h hx
  | loadPen | loadPalette | loadShade | loadKeymap | loadBanner | setBanner | backlight | lamps | setKeys | setNotice
  | clearCounts => exact live_keeps hx h fun _ => hP.takeControl h fun _ => hP.same h
  | loadPane => exact live_keeps hx h fun _ => hP.takeControl h fun _ => hP.forgetPane (hP.same h) _
  | reset => exact live_keeps hx h fun _ => hP.takeControl h fun _ => hP.softReset h
  | setView =>
    refine live_keeps hx h fun _ => hP.takeControl h fun _ => ?_
    unfold setViewEffect
    split <;> exact hP.same h
  | setOutage => exact hP.setOutage h hx
  | doze =>
    refine live_keeps hx h fun _ => hP.takeControl h fun _ => ?_
    split
    · exact hP.enterEntering h
    · exact h
  | panelStart | panelFull | panelPartial | panelIdleOn | panelIdleOff | panelShow | panelBlank =>
    exact live_keeps hx h fun _ => hP.takePanel h fun _ => hP.congr h (by simp) (by simp) (by simp) (by simp)
  | panelStop => exact live_keeps hx h fun _ => hP.takePanel h fun _ => hP.requestStop h
  | askStatus => exact live_keeps hx h fun _ => hP.takeAsk h hP.answerStatus
  | askDigest => exact live_keeps hx h fun _ => hP.takeAsk h hP.answerDigest
  | askCell | askTable | askId => exact live_keeps hx h fun _ => hP.takeAsk h fun hu => hP.answerWith hu _ _
  | digestRunEnd => exact hP.digestRunEnd h hx
  | retentionPassStart => exact hP.retentionPassStart h hx
  | retentionPassPaneDone => exact hP.retentionPassPaneDone h hx
  | oscillatorWaitEnd => exact hP.oscillatorWaitEnd h hx
  | retentionCheckPaneDone => exact hP.retentionCheckPaneDone h hx
  | retentionClearPaneDone => exact hP.retentionClearPaneDone h hx
  | dozeTimerExpiry => exact onEvent_keeps hx h fun _ _ => hP.enterEntering h
  | bannerDelayExpiry => exact onEvent_keeps hx h fun _ _ => hP.congr h (by simp) (by simp) (by simp) (by simp)
  | bannerGrant => exact hP.bannerGrant h hx
  | bannerRecordDone => exact hP.bannerRecordDone h hx
  | powerDownEnd => exact onEvent_keeps hx h fun _ _ => hP.reachOff h
  | frameEnd => exact hP.frameEnd h hx
  | keyScan raw => exact hP.keyScan h hx
  | replyFrameStart => exact hP.replyFrameStart h hx
  | recomputeStep => exact hP.recomputeStep h hx
  | dozePixelLoss x y v => exact hP.dozePixelLoss h hx
  | powerUpEnd => exact hP.powerUpEnd h hx
  | flowSymbolSend => exact hP.flowSymbolSend h hx
  | keysFrameStart => exact hP.keysFrameStart h hx
  | noticeFrameStart => exact hP.noticeFrameStart h hx
  | upstreamFrameEnd => exact hP.upstreamFrameEnd h hx

end LinkInvariant

end Sys2Proof.Machine

namespace Sys2Proof.Machine

set_option Elab.async false

/-! ## The receive queue (R14 to R16) -/

/-- The receive queue alone decides whether it is sound. -/
theorem QueueSound.congr {s t : State} (h : QueueSound s) (hq : t.rxq = s.rxq) : QueueSound t := by
  obtain ⟨h1, h2, h3, h4, h5⟩ := h
  constructor <;> rw [hq] <;> assumption

@[simp] theorem occupancy_cons (f : RxFrame) (rest : List RxFrame) :
    occupancy (f :: rest) = f.payload.length + 8 + occupancy rest := by simp [occupancy, RxFrame.occupancy]

@[simp] theorem occupancy_append (frames : List RxFrame) (f : RxFrame) :
    occupancy (frames ++ [f]) = occupancy frames + (f.payload.length + 8) := by simp [occupancy, RxFrame.occupancy]

/-- A removal lowers the occupancy and the frame count, and HOLD turns to GO where both have come down far enough. -/
theorem QueueSound.finishFrame {s : State} (h : QueueSound s) : QueueSound s.finishFrame := by
  obtain ⟨hf, hflow, -⟩ := finishFrame_rxq s
  obtain ⟨hlen, hbytes, hpay, hgo, hhold⟩ := h
  cases hfr : s.rxq.frames with
  | nil =>
    rw [hfr] at hf hflow hhold
    cases hs : s.rxq.flow with
    | go => constructor <;> simp [hf, hflow, hs, occupancy]
    | hold => simpa [occupancy] using hhold hs
  | cons f rest =>
    rw [hfr] at hf hflow hlen hbytes hgo hhold hpay
    rw [List.tail_cons] at hf hflow
    simp only [occupancy_cons, List.length_cons] at hlen hbytes hgo hhold
    constructor
    case frames => rw [hf]; omega
    case bytes => rw [hf]; omega
    case payloads => rw [hf]; exact fun g hg => hpay g (List.mem_cons_of_mem _ hg)
    case go =>
      rw [hf, hflow]
      split
      next hlow => intro _; omega
      next => intro hs; have := hgo hs; omega
    case hold =>
      rw [hf, hflow]
      split
      next => intro hs; cases hs
      next hlow => intro hs; by_contra hn; exact hlow ⟨hs, by omega, by omega⟩

theorem QueueSound.linkInvariant : LinkInvariant QueueSound where
  congr h _ hq _ _ := h.congr hq
  setFlag h _ := h.congr rfl
  clearSummary h := h.congr rfl
  finishReply h _ _ _ _ _ := h.congr (by simp)
  vacateSlot h _ := h.congr rfl
  reserveSlot h _ _ _ := h.congr rfl
  finishFrame h := h.finishFrame

/-- A frame at the tail turns GO to HOLD where the queue has filled far enough. -/
theorem QueueSound.joined {s : State} (h : QueueSound s) {f : RxFrame}
    (hf : f.payload.length ≤ 1024 ∧ f.payload.length % 4 = 0) (hroom : s.rxq.frames.length < 16)
    (hbytes : occupancy s.rxq.frames + (f.payload.length + 8) ≤ 8192) :
    QueueSound (State.flowAtAdmission { s with rxq := { s.rxq with frames := s.rxq.frames ++ [f] } }) := by
  obtain ⟨-, -, hpay, hgo, hhold⟩ := h
  have hpay' : ∀ g ∈ s.rxq.frames ++ [f], g.payload.length ≤ 1024 ∧ g.payload.length % 4 = 0 := by
    simpa [or_imp, forall_and] using ⟨⟨fun g hg => (hpay g hg).1, hf.1⟩, fun g hg => (hpay g hg).2, hf.2⟩
  unfold State.flowAtAdmission State.setFlow
  split
  next hfull =>
    simp only [occupancy_append, List.length_append, List.length_singleton] at hfull
    constructor <;> simp only [occupancy_append, List.length_append, List.length_singleton]
    case frames => omega
    case bytes => omega
    case payloads => exact hpay'
    case go => intro hs; cases hs
    case hold => intro _; omega
  next hlow =>
    simp only [occupancy_append, List.length_append, List.length_singleton] at hlow
    constructor <;> simp only [occupancy_append, List.length_append, List.length_singleton]
    case frames => omega
    case bytes => omega
    case payloads => exact hpay'
    case go => intro hs; by_contra hn; exact hlow ⟨hs, by omega⟩
    case hold => intro hs; have := hhold hs; omega

theorem QueueSound.admission {s : State} (h : QueueSound s) {f : RxFrame}
    (hf : f.payload.length ≤ 1024 ∧ f.payload.length % 4 = 0) : QueueSound (s.admission f) := by
  unfold State.admission
  split
  · exact h.congr rfl
  next hroom =>
    rw [RxFrame.occupancy] at hroom
    have hq := h.joined hf (by omega) (by omega)
    unfold State.admitFrame
    dsimp only
    split <;> exact hq.congr (by simp)

theorem QueueSound.keepFrame {s : State} (h : QueueSound s) {payload : List Byte}
    (hp : payload.length ≤ 1024 ∧ payload.length % 4 = 0) (kind flags sequence : Byte) :
    QueueSound (s.keepFrame kind flags sequence payload) := by
  have h1 : QueueSound { s with link := { s.link with expected := some (sequence + 1) } } := h.congr rfl
  unfold State.keepFrame
  dsimp only
  split
  · exact h1.admission hp
  · exact h1.congr rfl

theorem QueueSound.classify {s : State} (h : QueueSound s) {payload : List Byte}
    (hp : payload.length ≤ 1024 ∧ payload.length % 4 = 0) (kind flags sequence : Byte) :
    QueueSound (s.classify kind flags sequence payload) := by
  have h1 : ∀ d, QueueSound ((s.count .gapFrames d).setFlag .gap) := fun d => h.congr rfl
  unfold State.classify
  split
  · exact h.keepFrame hp _ _ _
  · dsimp only
    split
    · exact h.keepFrame hp _ _ _
    · split
      · exact (h1 _).keepFrame hp _ _ _
      · exact h.congr rfl

theorem QueueSound.endFrame {s : State} (h : QueueSound s) {buffer : List Byte} (hlen : headerLength buffer ≤ 1024)
    (hmod : headerLength buffer % 4 = 0) (hfull : 8 + headerLength buffer ≤ buffer.length) :
    QueueSound (s.endFrame buffer) := by
  have hp : ((buffer.drop 6).take (headerLength buffer)).length = headerLength buffer := by
    rw [List.length_take, List.length_drop]; omega
  have h1 : QueueSound (s.setAssembly .waiting).goodFrame := h.congr (by simp)
  unfold State.endFrame
  dsimp only
  split
  · exact h1.classify (by rw [hp]; exact ⟨hlen, hmod⟩) _ _ _
  · exact h.congr rfl

theorem QueueSound.dataSymbol {s t : State} (h : QueueSound s) {b : Byte} (hx : execDataSymbol b s = .next t) :
    QueueSound t := by
  refine onEvent_keeps hx h fun _ _ => ?_
  split
  · exact h
  · dsimp only
    split
    · exact h.congr rfl
    · split
      · exact h.congr rfl
      next hpossible =>
        split
        · exact h.congr rfl
        next hfull => exact h.endFrame (by omega) (by omega) (by omega)

theorem QueueSound.setLink {s t : State} (h : QueueSound s) (hx : execSetLink s = .next t) : QueueSound t := by
  unfold execSetLink at hx
  refine live_keeps hx h fun _ => linkInvariant.takeControl h fun _ => ?_
  dsimp only
  split
  · exact h.congr (by simp)
  · exact h.congr rfl

theorem QueueSound.exec {c : Instr} {s t : State} (h : QueueSound s) (hx : exec c s = .next t) : QueueSound t := by
  cases hc : movesLink c with
  | false => exact linkInvariant.exec hc h hx
  | true =>
    cases c with
    | resetAssert => injection hx with hx; subst hx; constructor <;> simp [State.reset, occupancy]
    | resetRelease => injection hx with hx; subst hx; split <;> exact h.congr rfl
    | presenceContactChange v => injection hx with hx; subst hx; split <;> exact h.congr rfl
    | presenceClosed =>
      rw [Machine.exec, execPresenceClosed] at hx
      exact onEvent_keeps hx h fun _ _ => h.congr (by simp)
    | presenceOpen =>
      rw [Machine.exec, execPresenceOpen] at hx
      exact onEvent_keeps hx h fun _ _ => h.congr (by simp)
    | laneLockGained =>
      rw [Machine.exec, execLaneLockGained] at hx
      exact live_keeps hx h fun _ => h.congr rfl
    | laneLockLost =>
      rw [Machine.exec, execLaneLockLost] at hx
      refine onEvent_keeps hx h fun _ _ => ?_
      split <;> exact h.congr (by simp)
    | startSymbol =>
      rw [Machine.exec, execStartSymbol] at hx
      exact onEvent_keeps hx h fun _ _ => h.congr (by simp)
    | dataSymbol b => exact h.dataSymbol hx
    | silenceTimeout => exact onEvent_keeps hx h fun _ _ => h.congr (by simp)
    | setLink => exact h.setLink hx
    | _ => cases hc

theorem QueueSound.step {s t : State} (h : QueueSound s) (hx : step s = .next t) : QueueSound t :=
  step_keeps (fun _ _ h => h.congr rfl) (fun _ h => linkInvariant.idle (fun h _ _ => h.congr rfl) h)
    (fun _ _ _ h hx => h.exec hx) h hx

/-! ## What the operations of the link port leave in the link (R3 to R12) -/

@[simp] theorem setLink_link (s : State) (l : LinkState) : (s.setLink l).link = { s.link with state := l } := rfl

@[simp] theorem setAssembly_link (s : State) (a : Assembly) :
    (s.setAssembly a).link = { s.link with assembly := a } := rfl

@[simp] theorem truncate_link (s : State) : s.truncate.link = { s.link with assembly := .waiting } := by
  unfold State.truncate Assembly.isAssembling
  cases h : s.link.assembly with
  | assembling buffer => simp
  | waiting => simp [← h]

@[simp] theorem goQuiet_link (s : State) : s.goQuiet.link = { s.link with state := .quiet } := by simp [State.goQuiet]

@[simp] theorem enterAbsent_link (s : State) :
    s.enterAbsent.link = { s.link with state := .absent, expected := none, assembly := .waiting } := by
  simp [State.enterAbsent]

@[simp] theorem resume_link (s : State) : s.resume.link = { s.link with state := .up, silence := 0 } := by
  simp [State.resume]

@[simp] theorem keepFrame_link (s : State) (kind flags sequence : Byte) (payload : List Byte) :
    (s.keepFrame kind flags sequence payload).link = { s.link with expected := some (sequence + 1) } := by
  unfold State.keepFrame
  dsimp only
  split <;> simp

/-- Classification moves no part of the link but the expected sequence. -/
@[simp] theorem classify_link (s : State) (kind flags sequence : Byte) (payload : List Byte) :
    (s.classify kind flags sequence payload).link.state = s.link.state ∧
      (s.classify kind flags sequence payload).link.presence = s.link.presence ∧
      (s.classify kind flags sequence payload).link.laneLock = s.link.laneLock ∧
      (s.classify kind flags sequence payload).link.assembly = s.link.assembly := by
  unfold State.classify
  dsimp only
  (repeat' split) <;> simp

/-- A good frame moves the silence timer, and ACQUIRING and QUIET to UP. -/
theorem goodFrame_link (s : State) :
    s.goodFrame.link = s.link ∨
      (s.link.state ≠ .absent ∧ s.goodFrame.link = { s.link with state := .up, silence := 0 }) := by
  unfold State.goodFrame
  split <;> simp_all

/-! ## The frame assembly (R9, R10) -/

/-- The link alone decides whether the assembly is sound. -/
theorem AssemblySound.congr {s t : State} (h : AssemblySound s) (ha : t.link.assembly = s.link.assembly)
    (hlock : t.link.laneLock = s.link.laneLock) (hstate : t.link.state = .absent → s.link.state = .absent) :
    AssemblySound t := by
  intro buffer hb
  rw [ha] at hb
  obtain ⟨h1, h2, h3⟩ := h buffer hb
  exact ⟨hlock.trans h1, mt hstate h2, h3⟩

/-- With no frame in assembly there is nothing to ask. -/
theorem AssemblySound.of_waiting {s : State} (h : s.link.assembly = .waiting) : AssemblySound s := by
  intro buffer hb
  rw [h] at hb
  cases hb

theorem AssemblySound.linkInvariant : LinkInvariant AssemblySound where
  congr h hl _ _ _ := h.congr (by rw [hl]) (by rw [hl]) (by rw [hl]; exact id)
  setFlag h _ := h.congr rfl rfl id
  clearSummary h := h.congr rfl rfl id
  finishReply h _ _ _ _ _ := h.congr (by simp) (by simp) (by simp)
  vacateSlot h _ := h.congr rfl rfl id
  reserveSlot h _ _ _ := h.congr rfl rfl id
  finishFrame h := h.congr (by simp) (by simp) (by simp)

/-- The end of a frame leaves none in assembly. -/
theorem endFrame_assembly (s : State) (buffer : List Byte) : (s.endFrame buffer).link.assembly = .waiting := by
  unfold State.endFrame
  dsimp only
  split
  · rcases goodFrame_link (s.setAssembly .waiting) with h | ⟨-, h⟩ <;> simp [h]
  · simp

theorem AssemblySound.dataSymbol {s t : State} (h : AssemblySound s) {b : Byte} (hx : execDataSymbol b s = .next t) :
    AssemblySound t := by
  refine onEvent_keeps hx h fun _ htakes => ?_
  obtain ⟨hlock, hstate⟩ : s.link.laneLock = true ∧ s.link.state ≠ .absent := by simpa [takesSymbols] using htakes
  split
  · exact h
  next stored _ =>
    have hstored : ∀ buffer : List Byte, buffer.length < 1032 → (6 ≤ buffer.length → headerLength buffer ≤ 1024 ∧
        headerLength buffer % 4 = 0 ∧ buffer.length < 8 + headerLength buffer) →
        AssemblySound (s.setAssembly (.assembling buffer)) := by
      intro buffer hlen hheader other ho
      injection ho with ho
      exact ho ▸ ⟨hlock, hstate, hlen, hheader⟩
    dsimp only
    split
    next hshort => exact hstored _ (by omega) (by omega)
    · split
      · exact .of_waiting rfl
      · split
        · exact hstored _ (by omega) (by omega)
        · exact .of_waiting (endFrame_assembly _ _)

theorem AssemblySound.setLink {s t : State} (h : AssemblySound s) (hx : execSetLink s = .next t) : AssemblySound t := by
  unfold execSetLink at hx
  refine live_keeps hx h fun _ => linkInvariant.takeControl h fun _ => ?_
  dsimp only
  split
  · exact h.congr (by simp) (by simp) (by simp)
  · exact h.congr rfl rfl id

theorem AssemblySound.exec {c : Instr} {s t : State} (h : AssemblySound s) (hx : exec c s = .next t) :
    AssemblySound t := by
  cases hc : movesLink c with
  | false => exact linkInvariant.exec hc h hx
  | true =>
    cases c with
    | resetAssert => injection hx with hx; subst hx; exact .of_waiting rfl
    | resetRelease => injection hx with hx; subst hx; split <;> exact h.congr rfl rfl id
    | presenceContactChange v => injection hx with hx; subst hx; split <;> exact h.congr rfl rfl id
    | presenceClosed =>
      rw [Machine.exec, execPresenceClosed] at hx
      refine onEvent_keeps hx h fun _ _ => h.congr (by simp) (by simp) fun hs => ?_
      by_contra hn
      simp [hn] at hs
    | presenceOpen =>
      rw [Machine.exec, execPresenceOpen] at hx
      exact onEvent_keeps hx h fun _ _ => .of_waiting (by simp)
    | laneLockGained =>
      rw [Machine.exec, execLaneLockGained] at hx
      exact live_keeps hx h fun _ b hb => ⟨rfl, (h b hb).2⟩
    | laneLockLost =>
      rw [Machine.exec, execLaneLockLost] at hx
      refine onEvent_keeps hx h fun _ _ => .of_waiting ?_
      dsimp only
      split <;> simp
    | startSymbol =>
      rw [Machine.exec, execStartSymbol] at hx
      refine onEvent_keeps hx h fun _ htakes buffer hb => ?_
      injection hb with hb
      subst hb
      simpa [takesSymbols, headerLength] using htakes
    | dataSymbol b => exact h.dataSymbol hx
    | silenceTimeout => exact onEvent_keeps hx h fun _ _ => h.congr (by simp) (by simp) (by simp)
    | setLink => exact h.setLink hx
    | _ => cases hc

theorem AssemblySound.step {s t : State} (h : AssemblySound s) (hx : step s = .next t) : AssemblySound t :=
  step_keeps (fun _ _ h => h.congr rfl rfl id) (fun _ h => linkInvariant.idle (fun h _ _ => h.congr rfl rfl id) h)
    (fun _ _ _ h hx => h.exec hx) h hx

/-! ## The link states (R3, R4, R20, R21, R173) -/

/-- Link state, presence, reply slots and the pending NOTICE alone decide whether the link is sound. -/
theorem LinkSound.congr {s t : State} (h : LinkSound s) (hstate : t.link.state = s.link.state)
    (hpresence : t.link.presence = s.link.presence) (hd : t.dec.slots = s.dec.slots)
    (hn : t.status.noticePending = s.status.noticePending) : LinkSound t := by
  obtain ⟨h1, h2, h3⟩ := h
  constructor
  · rwa [hstate, hpresence]
  · rwa [hstate, hd]
  · rwa [hstate, hn]

theorem LinkSound.count {s : State} (h : LinkSound s) (c : Counter) (k : Nat) : LinkSound (s.count c k) :=
  h.congr rfl rfl rfl rfl

/-- A slot written with an answer only where the link is up or quiet. -/
theorem LinkSound.setSlot {s : State} (h : LinkSound s) (n : Nat) {v : Slot}
    (hv : v.isFinished = true → s.link.state.alive = true) : LinkSound (s.setSlot n v) := by
  refine ⟨h.presence, fun m hm hf => ?_, h.notice⟩
  simp only [State.setSlot, Table.get_set] at hf
  split at hf
  · exact hv hf
  · exact h.replies m hm hf

theorem LinkSound.finishReply {s : State} (h : LinkSound s) (n : Nat) (k t : Byte) (e : ReplyStatus) (b : List Word) :
    LinkSound (s.finishReply n k t e b) := by
  cases ha : s.link.state.alive with
  | true => rw [finishReply_alive ha]; exact h.setSlot n fun _ => ha
  | false =>
    rw [finishReply_lost ha]
    exact (h.setSlot n (v := .free) (by simp [Slot.isFinished])).count _ _

theorem LinkSound.linkInvariant : LinkInvariant LinkSound where
  congr h hl _ hd hn := h.congr (by rw [hl]) (by rw [hl]) hd hn
  setFlag h f := ⟨h.presence, h.replies, fun hn => by
    simp only [State.setFlag, Bool.or_eq_true, Bool.and_eq_true] at hn
    rcases hn with hn | ⟨-, ha⟩
    · exact h.notice hn
    · exact ha⟩
  clearSummary h := ⟨h.presence, h.replies, by simp [State.clearSummary]⟩
  finishReply h := h.finishReply
  vacateSlot h n := h.setSlot n (by simp [Slot.isFinished])
  reserveSlot h n _ _ := h.setSlot n (by simp [Slot.isFinished])
  finishFrame {s} h := h.congr (by simp) (by simp) (by rw [(finishFrame_rxq s).2.2]) (by simp)

/-- With no finished reply and no NOTICE pending, link state and presence alone must agree. -/
theorem LinkSound.of_given_up {s : State} (hpresence : s.link.presence = .opened ↔ s.link.state = .absent)
    (hslots : ∀ n < 4, (s.dec.slots.get n).isFinished = false) (hnone : s.status.noticePending = false) : LinkSound s :=
  ⟨hpresence, fun n hn hf => absurd hf (by simp [hslots n hn]), fun h => absurd h (by simp [hnone])⟩

/-- After the upstream side is given up, its finished slots are FREE and the others as they were (R20). -/
theorem giveUpUpstream_slot (s : State) {n : Nat} (hn : n < 4) :
    s.giveUpUpstream.dec.slots.get n = if (s.dec.slots.get n).isFinished then .free else s.dec.slots.get n := by
  simp [State.giveUpUpstream, hn]

theorem giveUpUpstream_notice (s : State) : s.giveUpUpstream.status.noticePending = false := rfl

theorem giveUpUpstream_no_finished (s : State) : ∀ n < 4, (s.giveUpUpstream.dec.slots.get n).isFinished = false := by
  intro n hn
  rw [giveUpUpstream_slot s hn]
  split
  · rfl
  next h => simpa using h

/-- A link that was not ABSENT stays sound on its way to UP or QUIET (R5, R6). -/
theorem LinkSound.toAlive {s t : State} (h : LinkSound s) (hs : s.link.state ≠ .absent)
    (hp : t.link.presence = s.link.presence) (ht : t.link.state.alive = true) : LinkSound t := by
  refine ⟨⟨fun ho => absurd (h.presence.mp (hp ▸ ho)) hs, fun ha => ?_⟩, fun _ _ _ => ht, fun _ => ht⟩
  rw [ha] at ht
  cases ht

theorem LinkSound.goodFrame {s : State} (h : LinkSound s) : LinkSound s.goodFrame := by
  unfold State.goodFrame
  split
  case h_3 => exact h.congr rfl rfl rfl rfl
  case h_4 => exact h
  all_goals exact h.toAlive (by simp [*]) (by simp) (by simp [LinkState.alive])

theorem LinkSound.admission {s : State} (h : LinkSound s) (f : RxFrame) : LinkSound (s.admission f) := by
  unfold State.admission
  split
  · exact linkInvariant.setFlag (h.count _ _) _
  · exact h.congr (by simp) (by simp) (by simp) (by simp)

theorem LinkSound.keepFrame {s : State} (h : LinkSound s) (kind flags sequence : Byte) (payload : List Byte) :
    LinkSound (s.keepFrame kind flags sequence payload) := by
  have h1 : LinkSound { s with link := { s.link with expected := some (sequence + 1) } } := h.congr rfl rfl rfl rfl
  unfold State.keepFrame
  dsimp only
  split
  · exact h1.admission _
  · exact h1.congr rfl rfl rfl rfl

theorem LinkSound.classify {s : State} (h : LinkSound s) (kind flags sequence : Byte) (payload : List Byte) :
    LinkSound (s.classify kind flags sequence payload) := by
  have hgap : ∀ c d, LinkSound ((s.count c d).setFlag .gap) := fun c d =>
    linkInvariant.setFlag (h.count c d) _
  unfold State.classify
  split
  · exact h.keepFrame _ _ _ _
  · dsimp only
    split
    · exact h.keepFrame _ _ _ _
    · split
      · exact (hgap _ _).keepFrame _ _ _ _
      · exact hgap _ _

theorem LinkSound.setAssembly {s : State} (h : LinkSound s) (a : Assembly) : LinkSound (s.setAssembly a) :=
  h.congr rfl rfl rfl rfl

theorem LinkSound.endFrame {s : State} (h : LinkSound s) (buffer : List Byte) : LinkSound (s.endFrame buffer) := by
  unfold State.endFrame
  dsimp only
  split
  · exact (h.setAssembly _).goodFrame.classify _ _ _ _
  · exact (h.setAssembly _).count _ _

theorem LinkSound.dataSymbol {s t : State} (h : LinkSound s) {b : Byte} (hx : execDataSymbol b s = .next t) :
    LinkSound t := by
  refine onEvent_keeps hx h fun _ _ => ?_
  split
  · exact h
  · dsimp only
    split
    · exact h.setAssembly _
    · split
      · exact (h.setAssembly _).count _ _
      · split
        · exact h.setAssembly _
        · exact h.endFrame _

theorem LinkSound.setLink {s t : State} (h : LinkSound s) (hx : execSetLink s = .next t) : LinkSound t := by
  unfold execSetLink at hx
  refine live_keeps hx h fun _ => linkInvariant.takeControl h fun _ => ?_
  dsimp only
  split
  next hdue =>
    have hup : s.link.state = .up := by simp_all [silenceDue]
    exact h.toAlive (by simp [hup]) (by simp) (by simp [LinkState.alive])
  · exact h.congr rfl rfl rfl rfl

theorem LinkSound.laneLockLost {s t : State} (h : LinkSound s) (hx : execLaneLockLost s = .next t) : LinkSound t := by
  unfold execLaneLockLost at hx
  refine onEvent_keeps hx h fun _ _ => ?_
  dsimp only
  split
  next hdown =>
    refine .of_given_up ?_ (giveUpUpstream_no_finished _) (giveUpUpstream_notice _)
    simp [hdown.2]
  · unfold State.truncate
    split <;> exact h.congr rfl rfl rfl rfl

theorem LinkSound.exec {c : Instr} {s t : State} (h : LinkSound s) (hx : exec c s = .next t) : LinkSound t := by
  cases hc : movesLink c with
  | false => exact linkInvariant.exec hc h hx
  | true =>
    cases c with
    | resetAssert =>
      injection hx with hx
      subst hx
      exact .of_given_up ⟨fun _ => rfl, fun _ => rfl⟩
        (fun n hn => by simp [State.reset, Decoder.atReset, hn, Slot.isFinished]) rfl
    | resetRelease => injection hx with hx; subst hx; split <;> exact h.congr rfl rfl rfl rfl
    | presenceContactChange v => injection hx with hx; subst hx; split <;> exact h.congr rfl rfl rfl rfl
    | presenceClosed =>
      rw [Machine.exec, execPresenceClosed] at hx
      refine onEvent_keeps hx h fun _ hdue => linkInvariant.wake ?_
      have habsent : s.link.state = .absent := h.presence.mp (by simp_all [presenceClosedDue])
      have hnone : ¬ (LinkState.absent.alive = true) := by decide
      refine .of_given_up (by simp [habsent]) (fun n hn => ?_) ?_
      · simpa [habsent, hnone] using mt (h.replies n hn)
      · simpa [habsent, hnone] using mt h.notice
    | presenceOpen =>
      rw [Machine.exec, execPresenceOpen] at hx
      refine onEvent_keeps hx h fun _ _ => .of_given_up (by simp) ?_ ?_
      · exact giveUpUpstream_no_finished _
      · exact giveUpUpstream_notice _
    | laneLockGained =>
      rw [Machine.exec, execLaneLockGained] at hx
      exact live_keeps hx h fun _ => h.congr rfl rfl rfl rfl
    | laneLockLost => exact h.laneLockLost hx
    | startSymbol =>
      rw [Machine.exec, execStartSymbol] at hx
      refine onEvent_keeps hx h fun _ _ => ?_
      unfold State.truncate
      split <;> exact h.congr rfl rfl rfl rfl
    | dataSymbol b => exact h.dataSymbol hx
    | silenceTimeout =>
      refine onEvent_keeps hx h fun _ hdue => ?_
      have hup : s.link.state = .up := by simp_all [silenceDue]
      exact h.toAlive (by simp [hup]) (by simp) (by simp [LinkState.alive])
    | setLink => exact h.setLink hx
    | _ => cases hc

theorem LinkSound.step {s t : State} (h : LinkSound s) (hx : step s = .next t) : LinkSound t :=
  step_keeps (fun _ _ h => h.congr rfl rfl rfl rfl)
    (fun _ h => linkInvariant.idle (fun h _ _ => h.congr rfl rfl rfl rfl) h) (fun _ _ _ h hx => h.exec hx) h hx

/-- Settles O53: each of the three is kept by the operations shared with the rest of the part (LinkInvariant) and by the
commands of the link port. -/
theorem stepsKeepLinkSound : Obligations.StepsKeepLinkSound :=
  ⟨fun _ _ => LinkSound.step, fun _ _ => AssemblySound.step, fun _ _ => QueueSound.step⟩

end Sys2Proof.Machine

namespace Sys2Proof.Machine

set_option Elab.async false

open Sys2Proof.Statements

/-! # The dock link (R1 to R14) -/

/-! ## What the operations of the link port leave as a whole -/

theorem Counter.index_lt (c : Counter) : c.index < 15 := by cases c <;> decide

theorem Counter.index_injective : Function.Injective Counter.index := by
  intro c d h
  cases c <;> cases d <;> cases h <;> rfl

/-- A counter after an advance of any counter (R177). -/
theorem counter_count (s : State) (c d : Counter) (k : Nat) :
    (s.count c k).counter d = if c = d then min 65535 (s.counter d + k) else s.counter d := by
  simp only [State.counter, count_counter, Counter.index_injective.eq_iff]

/-- The link is no part of the counters. -/
@[simp] theorem counter_link (s : State) (l : LinkPort) (c : Counter) :
    State.counter { s with link := l } c = s.counter c := rfl

theorem leaveUp_eq (s : State) :
    s.leaveUp = { s with power :=
      if s.link.state = .up then { s.power with outage := some 0, bannerPlayed := false, bannerDue := false }
      else s.power } := by
  unfold State.leaveUp State.startOutage
  split <;> rfl

theorem truncate_eq (s : State) :
    s.truncate = { s with
      link := { s.link with assembly := .waiting }
      status := { s.status with counters := s.truncate.status.counters } } := by
  unfold State.truncate Assembly.isAssembling
  cases h : s.link.assembly with
  | assembling buffer => rfl
  | waiting => simp [← h]

theorem truncate_counter (s : State) (c : Counter) :
    s.truncate.counter c =
      if s.link.assembly ≠ .waiting ∧ c = .truncated then min 65535 (s.counter c + 1) else s.counter c := by
  unfold State.truncate Assembly.isAssembling
  cases s.link.assembly with
  | assembling buffer => simp [counter_count, eq_comm]; rfl
  | waiting => simp

theorem leaveUp_counter (s : State) (c : Counter) : s.leaveUp.counter c = s.counter c := by simp [State.counter]

theorem giveUpUpstream_eq (s : State) :
    s.giveUpUpstream = { s with
      dec := { s.dec with slots := s.giveUpUpstream.dec.slots }
      status := { s.status with counters := s.giveUpUpstream.status.counters, noticePending := false } } := rfl

theorem giveUpUpstream_counter (s : State) (c : Counter) :
    s.giveUpUpstream.counter c =
      if c = .repliesLost then min 65535 (s.counter c + (finishedSlots s.dec.slots).length) else s.counter c := by
  have h : s.giveUpUpstream.counter c = (s.count .repliesLost (finishedSlots s.dec.slots).length).counter c := rfl
  rw [h, counter_count]
  simp only [eq_comm]

theorem enterAbsent_eq (s : State) :
    s.enterAbsent = { s with
      link := { s.link with state := .absent, expected := none, assembly := .waiting }
      dec := { s.dec with slots := s.enterAbsent.dec.slots }
      status := { s.status with counters := s.enterAbsent.status.counters, noticePending := false }
      power :=
        if s.link.state = .up then
          { s.power with outage := some 0, bannerPlayed := false, bannerDue := false, dozeTimer := 0 }
        else { s.power with dozeTimer := 0 } } := by
  unfold State.enterAbsent
  rw [giveUpUpstream_eq, truncate_eq, leaveUp_eq, State.setLink, State.restartDozeTimer]
  by_cases hup : s.link.state = .up <;> simp [hup]

theorem enterAbsent_slot (s : State) {n : Nat} (hn : n < 4) :
    s.enterAbsent.dec.slots.get n = if (s.dec.slots.get n).isFinished then .free else s.dec.slots.get n := by
  have h : s.enterAbsent.dec = s.leaveUp.truncate.giveUpUpstream.dec := by simp [State.enterAbsent]
  rw [h, giveUpUpstream_slot _ hn]
  simp

/-- A loss of the link advances TRUNCATED and REPLIES_LOST (R10, R20). -/
theorem enterAbsent_counter (s : State) (c : Counter) :
    s.enterAbsent.counter c =
      if c = .repliesLost then min 65535 (s.counter c + (finishedSlots s.dec.slots).length)
      else s.truncate.counter c := by
  have h : s.enterAbsent.counter c = s.leaveUp.truncate.giveUpUpstream.counter c := by
    simp [State.enterAbsent, State.counter]
  rw [h, giveUpUpstream_counter]
  split
  next hc => simp [truncate_counter, leaveUp_counter, hc]
  next => simp [truncate_counter, leaveUp_counter]

theorem truncate_leaveUp_giveUp_counter (s : State) (c : Counter) :
    (s.truncate.leaveUp.giveUpUpstream.setLink .acquiring).counter c =
      if c = .repliesLost then min 65535 (s.counter c + (finishedSlots s.dec.slots).length)
      else s.truncate.counter c := by
  have h : (s.truncate.leaveUp.giveUpUpstream.setLink .acquiring).counter c =
      s.truncate.leaveUp.giveUpUpstream.counter c := rfl
  rw [h, giveUpUpstream_counter]
  split
  next hc => simp [truncate_counter, leaveUp_counter, hc]
  next => simp [leaveUp_counter]

/-! ## Losses of the link (R3, R7) -/

/-- A contact open for 50 ms with the presence CLOSED (R2). -/
theorem exec_presenceOpen {s : State} (hr : s.resetLine = false) (hc : s.link.contact = .opened)
    (hp : s.link.presence = .closed) (ht : 50 ≤ s.link.stability) :
    exec .presenceOpen s = .next (State.enterAbsent { s with link := { s.link with presence := .opened } }) := by
  rw [exec, execPresenceOpen]
  exact onEvent_occurs hr (by simp [presenceOpenDue, hc, hp, ht])

/-- The link goes to ACQUIRING, with its upstream side given up (R7). -/
theorem exec_laneLockLost_down {s : State} (hr : s.resetLine = false) (hl : s.link.laneLock = true)
    (h : s.link.state.alive = true ∧ s.link.presence = .closed) :
    exec .laneLockLost s = .next
      ((State.truncate { s with link := { s.link with laneLock := false } }).leaveUp.giveUpUpstream.setLink
        .acquiring) := by
  rw [exec, execLaneLockLost, onEvent_occurs hr hl]
  simp only [if_pos h]

theorem exec_laneLockLost_stays {s : State} (hr : s.resetLine = false) (hl : s.link.laneLock = true)
    (h : ¬ (s.link.state.alive = true ∧ s.link.presence = .closed)) :
    exec .laneLockLost s = .next (State.truncate { s with link := { s.link with laneLock := false } }) := by
  rw [exec, execLaneLockLost, onEvent_occurs hr hl]
  simp only [if_neg h]

/-- Settles O5: each of the two losses is a truncation and a giving up of the upstream side, whose effects on slots and
counters are known one by one. -/
theorem linkLosses : Obligations.LinkLosses := by
  refine ⟨fun s hr hc hp ht => ⟨_, exec_presenceOpen hr hc hp ht, enterAbsent_eq _, fun n hn => enterAbsent_slot _ hn,
    ?_, ?_, fun c h1 h2 => ?_⟩, fun s hr => ?_, fun s hr hl => ?_⟩
  · simp [enterAbsent_counter, truncate_counter]
  · rw [enterAbsent_counter]
    rfl
  · simp [enterAbsent_counter, truncate_counter, h1, h2]
  · rw [exec, execLaneLockGained, live_released hr]
  · by_cases h : s.link.state.alive = true ∧ s.link.presence = .closed
    · refine ⟨_, exec_laneLockLost_down hr hl h, fun _ => ⟨?_, fun n hn => ?_, ?_⟩, fun hn => absurd h hn, ?_,
        fun c h1 h2 => ?_⟩
      · rw [giveUpUpstream_eq, leaveUp_eq, truncate_eq, State.setLink]
      · exact (giveUpUpstream_slot _ hn).trans (by simp)
      · rw [truncate_leaveUp_giveUp_counter]
        rfl
      · simp [truncate_leaveUp_giveUp_counter, truncate_counter]
      · simp [truncate_leaveUp_giveUp_counter, truncate_counter, h1, h2]
    · refine ⟨_, exec_laneLockLost_stays hr hl h, fun hn => absurd hn h, fun _ => ⟨truncate_eq _, ?_⟩, ?_,
        fun c h1 _ => ?_⟩
      · simp [truncate_counter]
      · simp [truncate_counter]
      · simp [truncate_counter, h1]

end Sys2Proof.Machine

namespace Sys2Proof.Machine

set_option Elab.async false

open Sys2Proof.Statements

/-! # Frame assembly, checking and admission (R9 to R16) -/

/-! ## Frame assembly (R9, R10) -/

theorem takesSymbols_of {s : State} (hl : s.link.laneLock = true) (hs : s.link.state ≠ .absent) :
    takesSymbols s = true := by simp [takesSymbols, hl, hs]

/-- A data symbol in assembly, with lock held outside ABSENT (R9). -/
theorem exec_dataSymbol {s : State} {stored : List Byte} (hr : s.resetLine = false) (hl : s.link.laneLock = true)
    (hs : s.link.state ≠ .absent) (ha : s.link.assembly = .assembling stored) (b : Byte) :
    exec (.dataSymbol b) s = .next
      (if (stored ++ [b]).length < 6 then s.setAssembly (.assembling (stored ++ [b]))
        else if 1024 < headerLength (stored ++ [b]) ∨ headerLength (stored ++ [b]) % 4 ≠ 0 then
          (s.setAssembly .waiting).count .badFrame
        else if (stored ++ [b]).length < 8 + headerLength (stored ++ [b]) then
          s.setAssembly (.assembling (stored ++ [b]))
        else s.endFrame (stored ++ [b])) := by
  rw [exec, execDataSymbol, onEvent_occurs hr (takesSymbols_of hl hs)]
  simp only [ha]

/-- A frame that is given up is counted BAD_FRAME, and nothing else is changed. -/
theorem badFrame_eq (s : State) :
    (s.setAssembly .waiting).count .badFrame =
      { withCounter s .badFrame (min 65535 (s.counter .badFrame + 1)) with
        link := { s.link with assembly := .waiting } } := rfl

/-- Settles O6, by the branches of a data symbol. -/
theorem assemblyGathersBytes : Obligations.AssemblyGathersBytes := by
  intro s hr hl hs
  have hstart : exec .startSymbol s = .next (s.truncate.setAssembly (.assembling [])) := by
    rw [exec, execStartSymbol, onEvent_occurs hr (takesSymbols_of hl hs)]
  refine ⟨fun ha => ⟨?_, fun b => ?_⟩, fun buffer ha => ⟨?_, fun b => ⟨fun hmore => ?_, fun hlen hbad => ?_⟩⟩⟩
  · rw [hstart, State.truncate, ha]
    rfl
  · rw [exec, execDataSymbol, onEvent_occurs hr (takesSymbols_of hl hs)]
    simp only [ha]
  · rw [hstart, State.truncate, ha]
    rfl
  · rw [exec_dataSymbol hr hl hs ha]
    rcases hmore with hshort | ⟨hmax, hmod, hmore⟩
    · rw [if_pos (by simp; omega)]
      rfl
    · rw [if_neg (c := 1024 < _ ∨ _) (by omega), if_pos (c := _ < 8 + _) (by simp; omega), ite_self]
      rfl
  · rw [exec_dataSymbol hr hl hs ha, if_neg (by simp; omega), if_pos hbad]
    rfl

/-! ## The frame check (R11) -/

/-- The two bytes of a 16-bit field give it back. -/
theorem halfOfBytes_bytes (h : BitVec 16) : halfOfBytes (h.extractLsb' 0 8) (h.extractLsb' 8 8) = h := by
  unfold halfOfBytes
  ext i hi
  simp only [BitVec.getElem_append, BitVec.getElem_extractLsb']
  split
  next h8 => simp [BitVec.getLsbD_eq_getElem hi]
  next h8 => rw [show 8 + (i - 8) = i by omega, BitVec.getLsbD_eq_getElem hi]

/-- The CRC field behind a row of bytes. -/
theorem crcField_behind (l : List Byte) (crc : BitVec 16) :
    halfOfBytes ((l ++ bytesOfHalf crc).getD l.length 0) ((l ++ bytesOfHalf crc).getD (l.length + 1) 0) = crc := by
  simp [bytesOfHalf, List.getD_eq_getElem?_getD, halfOfBytes_bytes]

/-- A whole frame in the assembly buffer: its header, its payload of the length that the header gives, and its CRC. -/
structure WholeFrame (buffer header payload : List Byte) (crc : BitVec 16) : Prop where
  bytes : buffer = header ++ payload ++ bytesOfHalf crc
  headerSize : header.length = 6
  payloadSize : headerLength header = payload.length

namespace WholeFrame

variable {buffer header payload : List Byte} {crc : BitVec 16}

theorem getD_header (h : WholeFrame buffer header payload crc) {n : Nat} (hn : n < 6) :
    buffer.getD n 0 = header.getD n 0 := by
  obtain ⟨rfl, hh, -⟩ := h
  rw [List.append_assoc, List.getD_append _ _ _ _ (by omega)]

theorem headerLength_eq (h : WholeFrame buffer header payload crc) : headerLength buffer = payload.length := by
  rw [headerLength, h.getD_header (by omega), h.getD_header (by omega)]
  exact h.payloadSize

theorem length_eq (h : WholeFrame buffer header payload crc) : buffer.length = 8 + payload.length := by
  obtain ⟨rfl, hh, -⟩ := h
  simp [hh, bytesOfHalf]
  omega

theorem payload_eq (h : WholeFrame buffer header payload crc) :
    (buffer.drop 6).take (headerLength buffer) = payload := by
  rw [h.headerLength_eq]
  obtain ⟨rfl, hh, -⟩ := h
  rw [List.append_assoc, List.drop_left' hh, List.take_left' rfl]

/-- The check compares the CRC field with the CRC-16 of header and payload (R11). -/
theorem crcAgrees_iff (h : WholeFrame buffer header payload crc) :
    crcAgrees buffer = true ↔ crc = crc16 (header ++ payload) := by
  have hn : 6 + headerLength buffer = (header ++ payload).length := by simp [h.headerLength_eq, h.headerSize]
  simp only [crcAgrees, hn, decide_eq_true_eq]
  rw [h.bytes, crcField_behind, List.take_left' rfl]

end WholeFrame

/-- The last byte of a whole frame ends it (R9). -/
theorem exec_dataSymbol_last {s : State} {stored header payload : List Byte} {crc : BitVec 16} {b : Byte}
    (hr : s.resetLine = false) (hl : s.link.laneLock = true) (hs : s.link.state ≠ .absent)
    (ha : s.link.assembly = .assembling stored) (hf : WholeFrame (stored ++ [b]) header payload crc)
    (hmax : payload.length ≤ 1024) (hmod : payload.length % 4 = 0) :
    exec (.dataSymbol b) s = .next (s.endFrame (stored ++ [b])) := by
  have hlen := hf.length_eq
  have hhead := hf.headerLength_eq
  rw [exec_dataSymbol hr hl hs ha, if_neg (by omega), if_neg (c := 1024 < _ ∨ _) (by omega),
    if_neg (c := _ < 8 + _) (by omega)]

theorem endFrame_bad {s : State} {buffer : List Byte} (h : crcAgrees buffer = false) :
    s.endFrame buffer = (s.setAssembly .waiting).count .badFrame := by
  simp [State.endFrame, h]

/-- A frame with a good CRC goes to classification as its bytes say (R11, R12). -/
theorem endFrame_good {s : State} {buffer header payload : List Byte} {crc : BitVec 16}
    (hf : WholeFrame buffer header payload crc) (h : crcAgrees buffer = true) :
    s.endFrame buffer = (s.setAssembly .waiting).goodFrame.classify (header.getD 0 0) (header.getD 1 0)
      (header.getD 2 0) payload := by
  rw [State.endFrame, if_pos h, hf.payload_eq, hf.getD_header (by omega), hf.getD_header (by omega),
    hf.getD_header (by omega)]

/-- A good frame restarts the silence timer in UP, and brings a resume in ACQUIRING and QUIET (R5, R6). -/
theorem goodFrame_up {s : State} (h : s.link.state = .up) :
    s.goodFrame = { s with link := { s.link with silence := 0 } } := by
  simp [State.goodFrame, h]

theorem goodFrame_resume {s : State} (h : s.link.state ≠ .up) (h' : s.link.state ≠ .absent) :
    s.goodFrame = s.resume := by
  unfold State.goodFrame
  split <;> simp_all

/-! ## Resume (R5) -/

/-- An event is stale where the hold limit is a limit that its age has reached (R154). -/
theorem isStale_iff (e : KeyEvent) (now : BitVec 32) (limit : Option Nat) :
    e.isStale now limit = true ↔ ∃ l, limit = some l ∧ l ≤ (now - e.stamp).toNat := by
  cases limit with
  | none => simp [KeyEvent.isStale]
  | some l => exact decide_eq_true_iff.trans (by simp [KeyEvent.age])

theorem isStale_eq_false_iff (e : KeyEvent) (now : BitVec 32) (limit : Option Nat) :
    e.isStale now limit = false ↔ ∀ l, limit = some l → (now - e.stamp).toNat < l := by
  rw [← Bool.not_eq_true, isStale_iff]
  push Not
  rfl

/-- The events at the head of the key queue that are stale, and the rest (R154). -/
def staleEvents (s : State) : List KeyEvent :=
  s.keyq.events.takeWhile (fun e => e.isStale s.status.timeBase s.keyq.holdLimit)

def youngEvents (s : State) : List KeyEvent :=
  s.keyq.events.dropWhile (fun e => e.isStale s.status.timeBase s.keyq.holdLimit)

theorem stale_append_young (s : State) : s.keyq.events = staleEvents s ++ youngEvents s :=
  List.takeWhile_append_dropWhile.symm

theorem isStale_of_mem_staleEvents {s : State} {e : KeyEvent} (h : e ∈ staleEvents s) :
    e.isStale s.status.timeBase s.keyq.holdLimit = true :=
  List.mem_takeWhile_imp (p := fun e => KeyEvent.isStale e s.status.timeBase s.keyq.holdLimit) h

theorem isStale_head_youngEvents {s : State} {e : KeyEvent} (h : (youngEvents s).head? = some e) :
    e.isStale s.status.timeBase s.keyq.holdLimit = false := by
  have hhead := List.head?_dropWhile_not (fun e => KeyEvent.isStale e s.status.timeBase s.keyq.holdLimit) s.keyq.events
  rwa [show s.keyq.events.dropWhile _ = youngEvents s from rfl, h] at hhead

/-- The stale discard takes the stale events at the head, and counts them (R154). -/
theorem staleDiscard_eq (s : State) :
    s.staleDiscard = { s with
      keyq := { s.keyq with
        events := youngEvents s, snapshotPending := s.keyq.snapshotPending || !(staleEvents s).isEmpty }
      status := { s.status with
        counters := s.status.counters.set 11 (min 65535 (s.counter .staleKeys + (staleEvents s).length)) } } := by
  have hdrop : s.keyq.events.drop (staleEvents s).length = youngEvents s := by
    rw [stale_append_young s, List.drop_left]
  rw [← hdrop]
  rfl

theorem or_or_of_imp (a : Bool) {n d : Bool} (h : n = true → d = true) : (a || n || d) = (a || d) := by
  cases n
  · rw [Bool.or_false]
  · rw [h rfl, Bool.or_true, Bool.or_true]

/-- The setting of RESUMED and the NOTICE of a resume: a flag then set whose enable bit is 1 (R173). -/
theorem resumed_noticeAtResume {s : State} (h : s.link.state = .up) :
    (s.setFlag .resumed).noticeAtResume = { s with status := { s.status with
      summary := s.status.summary ||| 0x04#8
      noticePending :=
        s.status.noticePending || decide ((s.status.summary ||| 0x04#8) &&& s.status.noticeMask ≠ 0) } } := by
  have hmask : Flag.resumed.mask = 0x04#8 := rfl
  have hbit : s.status.noticeMask.getLsbD Flag.resumed.bit = true →
      (s.status.summary ||| 0x04#8) &&& s.status.noticeMask ≠ 0 := by
    intro hb h0
    have h2 := congrArg (fun x : Byte => x.getLsbD 2) h0
    simp [Flag.bit] at h2 hb
    simp [hb] at h2
  unfold State.noticeAtResume State.setFlag
  simp only [hmask, h, LinkState.alive, Bool.and_true]
  rw [or_or_of_imp _ fun hn => ?_]
  rw [Bool.and_eq_true] at hn
  simpa using hbit hn.2

/-- All that a resume does (R5). -/
theorem resume_eq (s : State) :
    s.resume = { s with
      link := { s.link with state := .up, silence := 0 }
      up := { s.up with flowPending := true }
      keyq := { s.keyq with
        events := youngEvents s, snapshotPending := s.keyq.snapshotPending || !(staleEvents s).isEmpty }
      power := { s.power with outage := none, bannerDue := false }
      status := { s.status with
        summary := s.status.summary ||| 0x04#8
        noticePending :=
          s.status.noticePending || decide ((s.status.summary ||| 0x04#8) &&& s.status.noticeMask ≠ 0)
        counters := s.status.counters.set 11 (min 65535 (s.counter .staleKeys + (staleEvents s).length)) } } := by
  unfold State.resume
  dsimp only
  rw [resumed_noticeAtResume rfl, staleDiscard_eq]
  rfl

/-- Settles O7: the bytes of a whole frame read back, the check on them, and what a resume leaves. -/
theorem crcCheckAndResume : Obligations.CrcCheckAndResume := by
  refine ⟨fun s stored header payload b crc hr hl hs ha hh hmax hmod hlen hbytes => ?_, fun s =>
    ⟨staleEvents s, youngEvents s, _, rfl, stale_append_young s,
      fun e he => (isStale_iff _ _ _).mp (isStale_of_mem_staleEvents he),
      fun e he => (isStale_eq_false_iff _ _ _).mp (isStale_head_youngEvents he), resume_eq s⟩⟩
  have hf : WholeFrame (stored ++ [b]) header payload crc := by
    refine ⟨hbytes, hh, ?_⟩
    rw [headerLength, hlen, BitVec.toNat_ofNat]
    omega
  rw [exec_dataSymbol_last hr hl hs ha hf hmax hmod]
  refine ⟨fun hbad => ?_, fun hgood hup => ?_, fun hgood hup => ?_⟩
  · have hno : crcAgrees (stored ++ [b]) = false := by simpa using mt hf.crcAgrees_iff.mp hbad
    rw [endFrame_bad hno, badFrame_eq]
  · rw [endFrame_good hf (hf.crcAgrees_iff.mpr hgood), goodFrame_up (by simpa using hup)]
    rfl
  · rw [endFrame_good hf (hf.crcAgrees_iff.mpr hgood), goodFrame_resume (by simpa using hup) (by simpa using hs)]
    rfl

/-! ## Classification and admission (R12 to R16) -/

theorem frameKind_ofCode_eq_none {kind : Byte} (h1 : kind ≠ 0x01#8) (h2 : kind ≠ 0x02#8) :
    FrameKind.ofCode kind = none := by
  unfold FrameKind.ofCode
  split
  next h => exact absurd (BitVec.eq_of_toNat_eq h) h1
  next h => exact absurd (BitVec.eq_of_toNat_eq h) h2
  next => rfl

/-- The distance of a sequence number from the expected one (R12). -/
theorem sequence_distance (sequence expected : Byte) :
    (sequence - expected).toNat = (sequence.toNat + 256 - expected.toNat) % 256 := by
  rw [BitVec.toNat_sub]
  omega

/-- A frame that there is room for joins the queue (R14, R16). -/
theorem flowAtAdmission_joined (s : State) (f : RxFrame) :
    State.flowAtAdmission { s with rxq := { s.rxq with frames := s.rxq.frames ++ [f] } } =
      if s.rxq.flow = .go ∧ (6144 ≤ occupancy s.rxq.frames + (f.payload.length + 8) ∨ 12 ≤ s.rxq.frames.length + 1) then
        { s with
          rxq := { frames := s.rxq.frames ++ [f], flow := .hold }
          up := { s.up with flowPending := true } }
      else { s with rxq := { s.rxq with frames := s.rxq.frames ++ [f] } } := by
  simp only [State.flowAtAdmission, occupancy_append, List.length_append, List.length_singleton]
  rfl

/-- Settles O8. -/
theorem classificationAndAdmission : Obligations.ClassificationAndAdmission := by
  refine ⟨fun s kind flags sequence payload => ⟨fun h => ?_, fun expected d he hd => ?_, fun s1 h1 => ?_⟩,
    fun s f => ⟨fun hfull => ?_, fun hbytes hroom => ⟨_, rfl, ?_⟩⟩⟩
  · simp [State.classify, h]
  · rw [← sequence_distance] at hd
    subst hd
    simp only [State.classify, he]
    refine ⟨fun h0 => if_pos h0, fun hlo hhi => ?_, fun hhi => ?_⟩
    · rw [if_neg (by omega), if_pos hhi]
    · rw [if_neg (by omega), if_neg (by omega)]
  · subst h1
    refine ⟨fun hk => ?_, fun hk => ?_, fun h1 h2 => ?_⟩
    · subst hk; rfl
    · subst hk; rfl
    · simp only [State.keepFrame, frameKind_ofCode_eq_none h1 h2]
  · exact if_pos (by rw [RxFrame.occupancy]; omega)
  · rw [← flowAtAdmission_joined, State.admission, if_neg (by rw [RxFrame.occupancy]; omega), State.admitFrame]
    refine ⟨fun hd => ?_, fun hd => ?_, fun hd => ?_⟩
    · rcases hd with hd | hd <;> simp only [hd]
    · simp [hd, State.wake]
    · simp only [hd]

end Sys2Proof.Machine

namespace Sys2Proof.Machine

set_option Elab.async false

open Sys2Proof.Statements

/-! # Records of the frame in hand -/

theorem atRecord_iff {s : State} {f : RxFrame} {r : Record} :
    AtRecord s f r ↔ s.resetLine = false ∧ s.record? = some (f, r) := by
  rw [AtRecord, record?_some]

theorem recordOf?_of_atRecord {s : State} {f : RxFrame} {r : Record} (h : AtRecord s f r) :
    s.recordOf? r.kind = some (f, r) := recordOf?_some.mpr ⟨(atRecord_iff.mp h).2, rfl⟩

/-- A check of the length and then of one field. -/
theorem lengthThenRange_eq_none {a b : Bool} :
    firstFailure [(a, .length), (b, .range)] = none ↔ a = true ∧ b = true := by
  simp [firstFailure_eq_none]

/-! # Presence and the silence timer (R2, R4, R6, R8) -/

theorem setLinkCheck_of_accepted {s : State} {f : RxFrame} {r : Record} (h : Accepted s f r 0x2B) :
    setLinkCheck r = none := by
  obtain ⟨-, -, hk, hl, hf⟩ := h
  simp only [lengthMatches, hk] at hl
  simp only [fieldsInRange, hk] at hf
  exact lengthThenRange_eq_none.mpr ⟨hl, hf⟩

theorem silenceTimeoutOf_eq {n ms : Nat} (h : [50, 200, 1000, 4000][n]? = some ms) : silenceTimeoutOf n = ms := by
  match n, h with
  | 0, h | 1, h | 2, h | 3, h => simpa [silenceTimeoutOf] using h

theorem goQuiet_eq {s : State} (h : s.link.state = .up) :
    s.goQuiet = { s with
      link := { s.link with state := .quiet }
      power := { s.power with outage := some 0, bannerPlayed := false, bannerDue := false } } := by
  rw [State.goQuiet, leaveUp_eq, if_pos h, State.setLink]

theorem silenceDue_iff (s : State) :
    silenceDue s = true ↔ s.link.state = .up ∧ s.link.silenceTimeout ≤ s.link.silence := by
  simp [silenceDue]

/-- A wake cause in DOZE and elsewhere (R169). -/
theorem wake_eq (s : State) :
    s.wake = { s with power :=
      if s.power.device = .doze then { s.power with device := .waking, oscillator := some 0 } else s.power } := by
  unfold State.wake
  split <;> rfl

/-- An accepted SET_LINK (R8). -/
theorem exec_setLink {s : State} {f : RxFrame} {r : Record} {ms : Nat} (h : Accepted s f r 0x2B)
    (hms : [50, 200, 1000, 4000][byteAt r 0 0]? = some ms) :
    exec .setLink s = .next (State.advance
      (if s.link.state = .up ∧ ms ≤ s.link.silence then
        State.goQuiet { s with link := { s.link with silenceTimeout := ms } }
      else { s with link := { s.link with silenceTimeout := ms } }) r) := by
  obtain ⟨hat, hctrl, hk, -, -⟩ := id h
  have hr := recordOf?_of_atRecord hat
  rw [hk] at hr
  rw [exec, execSetLink, live_released hat.1, takeControl_accepted hr hctrl (setLinkCheck_of_accepted h)]
  have ht : silenceTimeoutOf (headByte r 0) = ms := silenceTimeoutOf_eq hms
  simp only [ht, silenceDue_iff]

/-- Settles O9. -/
theorem presenceClosesAndSilence : Obligations.PresenceClosesAndSilence := by
  refine ⟨⟨fun s v hv => ?_, fun s hr hc hp ht => ?_⟩, fun s hr hup ht => ?_, fun s f r ms h hms => ⟨fun hup ht => ?_,
    fun hn => ?_⟩⟩
  · rw [exec, execPresenceContactChange, if_neg hv]
  · rw [exec, execPresenceClosed, onEvent_occurs hr (by simp [presenceClosedDue, hc, hp, ht]), wake_eq]
  · rw [exec, execSilenceTimeout, onEvent_occurs hr ((silenceDue_iff s).mpr ⟨hup, ht⟩), goQuiet_eq hup]
  · rw [exec_setLink h hms, if_pos ⟨hup, ht⟩, goQuiet_eq (by exact hup)]
  · rw [exec_setLink h hms, if_neg hn]

end Sys2Proof.Machine

namespace Sys2Proof.Machine

set_option Elab.async false

open Sys2Proof.Statements

/-! # Questions and their replies (R30, R33 to R35, R175, R178, R179) -/

/-! ## The reply slot of a record -/

/-- In UP and QUIET a reply waits in the slot that was reserved for it, noted after every finished one (R33). -/
theorem finishReply_reserved_alive {s : State} {n : Nat} (k t : Byte) (e : ReplyStatus) (body : List Word)
    (hfree : s.dec.slots.get n = .free) (ha : s.link.state.alive = true) :
    ∃ order, (∀ m < 4, (s.dec.slots.get m).isFinished = true → (s.dec.slots.get m).order < order) ∧
      (s.setSlot n (.reserved k t)).finishReply n k t e body =
        { s with dec := { s.dec with slots := s.dec.slots.set n (.finished k t e body order) } } := by
  refine ⟨nextOrder (s.dec.slots.set n (.reserved k t)), fun m hm hf => ?_, ?_⟩
  · have hne : n ≠ m := by rintro rfl; simp [hfree, Slot.isFinished] at hf
    rw [← Table.get_set_ne s.dec.slots (.reserved k t) hne]
    exact order_lt_nextOrder _ hm
  · rw [finishReply_alive (by exact ha)]
    simp [State.setSlot, Table.set_set]

/-- In ABSENT and ACQUIRING the reply is lost, and its slot as FREE as it was (R21). -/
theorem finishReply_reserved_lost {s : State} {n : Nat} (k t : Byte) (e : ReplyStatus) (body : List Word)
    (hfree : s.dec.slots.get n = .free) (ha : s.link.state.alive = false) :
    (s.setSlot n (.reserved k t)).finishReply n k t e body =
      withCounter s .repliesLost (min 65535 (s.counter .repliesLost + 1)) := by
  rw [finishReply_lost (by exact ha)]
  simp only [State.setSlot, Table.set_set, Table.set_get_same _ hfree]
  rfl

/-! ## The checks of the ASK records -/

theorem tableEntryExists_eq (table layer entry : Nat) :
    tableEntryExists table layer entry =
      (decide (table ≤ 4) && decide (entry ≤ lastEntry table) && (decide (table ≠ 4) || decide (layer ≤ 1))) := by
  match table with
  | 0 | 1 | 2 | 3 | 4 => simp [tableEntryExists, tableLimit, lastEntry]
  | n + 5 => simp [tableEntryExists, tableLimit]

/-- Why an ASK record is refused, if it is: its length, a field, or a request that is outstanding (R35, R95). -/
def askFailure (s : State) (r : Record) : Option Reason :=
  firstFailure
    [(lengthMatches r, .length), (fieldsInRange r, .range),
      (!(decide (r.kind = 0x39#8) && s.digest.request.isSome), .busy)]

theorem askFailure_of_ne {r : Record} (hk : r.kind ≠ 0x39#8) (s : State) :
    askFailure s r = firstFailure [(lengthMatches r, .length), (fieldsInRange r, .range)] := by
  simp only [askFailure, hk, decide_false, Bool.false_and, Bool.not_false, firstFailure, if_true]

theorem askCode_cases {code : Byte} (h1 : 0x38 ≤ code.toNat) (h2 : code.toNat ≤ 0x3C) :
    code = 0x38#8 ∨ code = 0x39#8 ∨ code = 0x3A#8 ∨ code = 0x3B#8 ∨ code = 0x3C#8 := by
  bv_omega

theorem askStatusCheck_eq (s : State) {r : Record} (hk : r.kind = 0x38#8) : askStatusCheck r = askFailure s r := by
  rw [askFailure_of_ne (by simp [hk])]
  simp only [lengthMatches, fieldsInRange, hk]
  rfl

theorem askCellCheck_eq (s : State) {r : Record} (hk : r.kind = 0x3A#8) : askCellCheck r = askFailure s r := by
  rw [askFailure_of_ne (by simp [hk])]
  simp only [lengthMatches, fieldsInRange, hk]
  rfl

theorem askTableCheck_eq (s : State) {r : Record} (hk : r.kind = 0x3B#8) : askTableCheck r = askFailure s r := by
  rw [askFailure_of_ne (by simp [hk]), askTableCheck, tableEntryExists_eq]
  simp only [lengthMatches, fieldsInRange, hk]
  rfl

theorem askIdCheck_eq (s : State) {r : Record} (hk : r.kind = 0x3C#8) : lengthCheck 0 r = askFailure s r := by
  rw [askFailure_of_ne (by simp [hk])]
  simp only [lengthMatches, fieldsInRange, hk]
  rfl

theorem askDigestCheck_eq {s : State} {r : Record} (hk : r.kind = 0x39#8) :
    firstFailure [(decide (r.body.length = 1), .length), (s.digest.request.isNone, .busy)] = askFailure s r := by
  simp only [askFailure, lengthMatches, fieldsInRange, hk]
  cases s.digest.request <;> rfl

/-- A refused ASK record of any kind is answered with its reason (R35). -/
theorem answerOf_refused {s : State} {r : Record} {e : Reason} (h1 : 0x38 ≤ r.kind.toNat) (h2 : r.kind.toNat ≤ 0x3C)
    (he : askFailure s r = some e) (n : Nat) (f : RxFrame) : answerOf r.kind n f r s = s.refuseAsk n f r e := by
  rcases askCode_cases h1 h2 with hk | hk | hk | hk | hk
  · have hc := (askStatusCheck_eq s hk).trans he
    simp [answerOf, hk, answerStatus, answerWith, hc]
  · have hc := (askDigestCheck_eq hk).trans he
    simp [answerOf, hk, answerDigest, hc]
  · have hc := (askCellCheck_eq s hk).trans he
    simp [answerOf, hk, answerCell, answerWith, hc]
  · have hc := (askTableCheck_eq s hk).trans he
    simp [answerOf, hk, answerTable, answerWith, hc]
  · have hc := (askIdCheck_eq s hk).trans he
    simp [answerOf, hk, answerId, answerWith, hc]

/-! ## Taking an ASK record -/

/-- The step of an ASK record takes it and answers it by its kind code. -/
theorem exec_ask {r : Record} (h1 : 0x38 ≤ r.kind.toNat) (h2 : r.kind.toNat ≤ 0x3C) (s : State) :
    exec (recordCommand r) s = live s (takeAsk r.kind (answerOf r.kind)) := by
  rcases askCode_cases h1 h2 with hk | hk | hk | hk | hk <;> rw [recordCommand, hk] <;> rfl

/-- An ASK record of a CTRL frame with a FREE slot (R34). -/
theorem exec_ask_granted {s : State} {f : RxFrame} {r : Record} {n : Nat} (hat : AtRecord s f r) (hf : f.kind = .ctrl)
    (h1 : 0x38 ≤ r.kind.toNat) (h2 : r.kind.toNat ≤ 0x3C) (hfree : s.dec.slots.get n = .free) (hn : n < 4)
    (hlow : ∀ m < n, s.dec.slots.get m ≠ .free) :
    exec (recordCommand r) s =
      .next ((answerOf r.kind n f r (s.setSlot n (.reserved r.kind r.tag))).advance r) := by
  rw [exec_ask h1 h2, live_released hat.1,
    takeAsk_granted (recordOf?_of_atRecord hat) hf (freeSlot_first hn hfree hlow)]

/-- The refusal does not meet the slot that is reserved for its reply. -/
theorem setSlot_refuseAsk (s : State) (n : Nat) (v : Slot) (f : RxFrame) (r : Record) (e : Reason) :
    (s.setSlot n v).refuseAsk n f r e =
      ((s.refuse r.kind r.tag (some f.sequence) e).setSlot n v).finishReply n r.kind r.tag e.status [] := rfl

/-- Settles O23. -/
theorem askIsRefused : Obligations.AskIsRefused := by
  intro s f r n reason status hat hf h1 h2 hreason hfree hn hlow
  have hfail : askFailure s r = some reason ∧ reason.status = status := by
    split at hreason
    · simp_all [askFailure, firstFailure, Reason.status]
    · split at hreason
      · simp_all [askFailure, firstFailure, Reason.status]
      · split at hreason <;> simp_all [askFailure, firstFailure, Reason.status]
  obtain ⟨hfail, rfl⟩ := hfail
  have hfree' : (s.refuse r.kind r.tag (some f.sequence) reason).dec.slots.get n = .free := by simpa using hfree
  have hcount : (s.refuse r.kind r.tag (some f.sequence) reason).counter .repliesLost = s.counter .repliesLost := by
    simp [State.counter, count_counter, Counter.index]
  rw [exec_ask_granted hat hf h1 h2 hfree hn hlow, answerOf_refused h1 h2 (by exact hfail), setSlot_refuseAsk]
  refine ⟨_, rfl, fun ha => ?_, fun ha => ?_⟩
  · obtain ⟨order, horder, hreply⟩ :=
      finishReply_reserved_alive r.kind r.tag reason.status [] hfree' (by simpa using ha)
    refine ⟨order, by simpa using horder, ?_⟩
    rw [hreply]
    simp
  · rw [finishReply_reserved_lost _ _ _ _ hfree' (by simpa using ha), hcount]

/-! ## Answers -/

/-- An accepted record of ASK_CELL, ASK_TABLE or ASK_ID is answered with its body (R55, R178, R179). -/
theorem answerWith_accepted {check : Record → Option Reason} {r : Record} (h : check r = none)
    (body : Record → State → List Word) (n : Nat) (f : RxFrame) (s : State) :
    answerWith check body n f r s = s.finishReply n r.kind r.tag .ok (body r s) := by
  simp [answerWith, h]

theorem askFailure_of_accepted {s : State} {f : RxFrame} {r : Record} (h : Accepted s f r r.kind)
    (hk : r.kind ≠ 0x39#8) : askFailure s r = none := by
  obtain ⟨-, -, -, hl, hf⟩ := h
  simp [askFailure_of_ne hk, hl, hf, firstFailure]

/-- The step and the answer body of each ASK kind that is answered when it is taken (R55, R175, R178, R179). -/
def AnsweredAtOnce (s : State) (r : Record) (c : Instr) (body : List Word) : Prop :=
  (r.kind = 0x38#8 ∧ c = .askStatus ∧ body = statusBody s) ∨ (r.kind = 0x3A#8 ∧ c = .askCell ∧ body = cellBody r s) ∨
    (r.kind = 0x3B#8 ∧ c = .askTable ∧ body = tableBody r s) ∨
    (r.kind = 0x3C#8 ∧ c = .askId ∧ body = identificationBody)

/-- Such a record in its reserved slot: its answer is finished, and ASK_STATUS with clear option 1 then clears the
summary in UP and QUIET (R175). -/
theorem answerOf_accepted {s : State} {f : RxFrame} {r : Record} {c : Instr} {body : List Word}
    (hbody : AnsweredAtOnce s r c body) (h : Accepted s f r r.kind) (n : Nat) (v : Slot) :
    answerOf r.kind n f r (s.setSlot n v) =
      if c = .askStatus ∧ byteAt r 0 0 = 1 ∧ s.link.state.alive = true then
        ((s.setSlot n v).finishReply n r.kind r.tag .ok body).clearSummary
      else (s.setSlot n v).finishReply n r.kind r.tag .ok body := by
  rcases hbody with ⟨hk, rfl, rfl⟩ | ⟨hk, rfl, rfl⟩ | ⟨hk, rfl, rfl⟩ | ⟨hk, rfl, rfl⟩
  · have hc : askStatusCheck r = none := (askStatusCheck_eq s hk).trans (askFailure_of_accepted h (by simp [hk]))
    have ha : answerOf r.kind = answerStatus := by rw [hk]; rfl
    rw [ha, answerStatus, answerWith_accepted hc]
    simp only [hc, true_and]
    rfl
  · have hc := (askCellCheck_eq s hk).trans (askFailure_of_accepted h (by simp [hk]))
    have ha : answerOf r.kind = answerWith askCellCheck cellBody := by rw [hk]; rfl
    rw [ha, answerWith_accepted hc, if_neg (by simp)]
    rfl
  · have hc := (askTableCheck_eq s hk).trans (askFailure_of_accepted h (by simp [hk]))
    have ha : answerOf r.kind = answerWith askTableCheck tableBody := by rw [hk]; rfl
    rw [ha, answerWith_accepted hc, if_neg (by simp)]
    rfl
  · have hc := (askIdCheck_eq s hk).trans (askFailure_of_accepted h (by simp [hk]))
    have ha : answerOf r.kind = answerWith (lengthCheck 0) (fun _ _ => identificationBody) := by rw [hk]; rfl
    rw [ha, answerWith_accepted hc, if_neg (by simp)]

theorem AnsweredAtOnce.command {s : State} {r : Record} {c : Instr} {body : List Word} (h : AnsweredAtOnce s r c body) :
    c = recordCommand r ∧ 0x38 ≤ r.kind.toNat ∧ r.kind.toNat ≤ 0x3C := by
  rcases h with ⟨hk, rfl, -⟩ | ⟨hk, rfl, -⟩ | ⟨hk, rfl, -⟩ | ⟨hk, rfl, -⟩ <;> simp [recordCommand, hk]

/-- Settles O22: the record is granted its slot, and its answer is finished there, or lost. -/
theorem askIsAnswered : Obligations.AskIsAnswered := by
  intro s f r c body n hmem hacc hfree hn hlow
  have hbody : AnsweredAtOnce s r c body := by
    have hkind : ∀ {k : Nat}, r.kind.toNat = k → k < 256 → r.kind = BitVec.ofNat 8 k := fun hk hlt =>
      BitVec.eq_of_toNat_eq (by rw [hk, BitVec.toNat_ofNat, Nat.mod_eq_of_lt hlt])
    unfold AnsweredAtOnce
    split at hmem
    next hk => simpa [hkind hk (by omega)] using hmem
    next hk => simpa [hkind hk (by omega)] using hmem
    next hk => simpa [hkind hk (by omega)] using hmem
    next hk => simpa [hkind hk (by omega)] using hmem
    next => simp at hmem
  obtain ⟨rfl, h1, h2⟩ := hbody.command
  obtain ⟨hat, hf, -⟩ := id hacc
  rw [exec_ask_granted hat hf h1 h2 hfree hn hlow, answerOf_accepted hbody hacc]
  refine ⟨fun ha => ?_, fun ha => ?_⟩
  · obtain ⟨order, horder, hreply⟩ := finishReply_reserved_alive r.kind r.tag .ok body hfree ha
    refine ⟨order, _, horder, rfl, ?_⟩
    rw [hreply]
    simp only [ha, and_true]
    rfl
  · rw [if_neg (by simp [ha]), finishReply_reserved_lost _ _ _ _ hfree ha]

end Sys2Proof.Machine

namespace Sys2Proof.Machine

set_option Elab.async false

open Sys2Proof.Statements

/-! # The digest unit and its reply (R21, R97, R99, R180) -/

theorem findFirst_lowest {α : Type} [Inhabited α] {m : Nat} {t : Table α m} {p : α → Bool} {n : Nat} (hn : n < m)
    (h : p (t.get n) = true) (hlow : ∀ k < n, p (t.get k) = false) : t.findFirst p = some n := by
  rw [Table.findFirst, List.find?_range_eq_some]
  exact ⟨h, by simpa using hn, fun k hk => by simpa using hlow k hk⟩

/-- The lowest-numbered pending pane becomes the running pane (R97). -/
theorem digestGoOn_pending {s : State} {n : Nat} (hn : n < 16) (h : s.digest.pendingSet.get n = true)
    (hlow : ∀ m < n, s.digest.pendingSet.get m = false) :
    s.digestGoOn = { s with
      digest := { s.digest with pendingSet := s.digest.pendingSet.set n false, running := some n }
      panes := s.panes.set n { s.panes.get n with digest := .running } } := by
  simp only [State.digestGoOn, findFirst_lowest (p := id) hn h hlow]
  rfl

theorem digestGoOn_none {s : State} (h : ∀ m < 16, s.digest.pendingSet.get m = false) :
    s.digestGoOn = s.examineRequest := by
  simp only [State.digestGoOn, (Table.findFirst_none (p := id)).mpr h]

theorem inPreparation_iff (d : DigestState) : d.inPreparation = true ↔ d = .pending ∨ d = .running := by
  cases d <;> simp [DigestState.inPreparation]

theorem mem_panesOfMask {mask : BitVec 16} {n : Nat} : n ∈ panesOfMask mask ↔ n < 16 ∧ mask.getLsbD n = true := by
  simp [panesOfMask]

/-- A request is complete where no pane of its mask is PENDING or RUNNING (R99). -/
theorem requestComplete_iff (panes : Table Pane 16) (mask : BitVec 16) :
    requestComplete panes mask = true ↔
      ∀ n < 16, mask.getLsbD n = true → (panes.get n).digest ≠ .pending ∧ (panes.get n).digest ≠ .running := by
  simp only [requestComplete, List.all_eq_true, mem_panesOfMask, Bool.not_eq_true', ← Bool.not_eq_true,
    inPreparation_iff, not_or, and_imp, ne_eq]

/-- A complete request is answered in its slot, and the unit is IDLE (R99). -/
theorem examineRequest_complete {s : State} {q : DigestRequest} (hq : s.digest.request = some q)
    (h : requestComplete s.panes q.mask = true) :
    s.examineRequest = State.finishReply { s with digest := { s.digest with work := .idle, request := none } }
      q.slot 0x39 q.tag .ok (digestBody s.panes q.mask) := by
  simp only [State.examineRequest, hq, if_pos h]

theorem examineRequest_waits {s : State} {q : DigestRequest} (hq : s.digest.request = some q)
    (h : requestComplete s.panes q.mask = false) : s.examineRequest = s := by
  simp [State.examineRequest, hq, h]

/-! ## The bytes of the reply -/

/-- The number that the four bytes of a word spell, the lowest first (R180). -/
theorem wordOfBytes_toNat (b0 b1 b2 b3 : Byte) :
    (wordOfBytes b0 b1 b2 b3).toNat = ((b3.toNat * 256 + b2.toNat) * 256 + b1.toNat) * 256 + b0.toNat := by
  have happend : ∀ {w : Nat} (x : BitVec w) (b : Byte), (x ++ b).toNat = x.toNat * 256 + b.toNat := by
    intro w x b
    rw [BitVec.toNat_append, ← Nat.shiftLeft_add_eq_or_of_lt b.isLt, Nat.shiftLeft_eq]
  calc (wordOfBytes b0 b1 b2 b3).toNat = (b3 ++ b2 ++ b1 ++ b0).toNat := rfl
    _ = _ := by rw [happend, happend, happend]

theorem wordOfBytes_byte {n : Nat} (h : n < 256) : wordOfBytes (byte n) 0 0 0 = BitVec.ofNat 32 n := by
  apply BitVec.eq_of_toNat_eq
  rw [wordOfBytes_toNat]
  simp [byte]
  omega

/-- A word's bytes read back. -/
theorem byteOf_wordOfBytes (b0 b1 b2 b3 : Byte) :
    byteOf (wordOfBytes b0 b1 b2 b3) 0 = b0 ∧ byteOf (wordOfBytes b0 b1 b2 b3) 1 = b1 ∧
      byteOf (wordOfBytes b0 b1 b2 b3) 2 = b2 ∧ byteOf (wordOfBytes b0 b1 b2 b3) 3 = b3 := by
  refine ⟨?_, ?_, ?_, ?_⟩ <;> ext i hi <;> simp only [byteOf, wordOfBytes, BitVec.getElem_extractLsb'] <;> grind

theorem halfOf_wordOfBytes_high (b0 b1 b2 b3 : Byte) : halfOf (wordOfBytes b0 b1 b2 b3) 1 = halfOfBytes b2 b3 := by
  ext i hi
  simp only [halfOf, wordOfBytes, halfOfBytes, BitVec.getElem_extractLsb']
  grind

theorem byteOf_wordOfHalves_low (lo hi : BitVec 16) :
    byteOf (wordOfHalves lo hi) 0 = lo.extractLsb' 0 8 ∧ byteOf (wordOfHalves lo hi) 1 = lo.extractLsb' 8 8 := by
  refine ⟨?_, ?_⟩ <;> ext i hi <;> simp only [byteOf, wordOfHalves, BitVec.getElem_extractLsb'] <;> grind

/-- The entry of a pane: its number, its digest state and its digest value (R180). -/
theorem digestEntry_fields (panes : Table Pane 16) (n : Nat) :
    byteOf (digestEntry panes n) 0 = byte n ∧ byteOf (digestEntry panes n) 1 = (panes.get n).digest.code ∧
      halfOf (digestEntry panes n) 1 = (panes.get n).digest.value := by
  obtain ⟨hlow, hhigh⟩ := byteOf_wordOfHalves_low (panes.get n).digest.value 0
  obtain ⟨h0, h1, -⟩ := byteOf_wordOfBytes (byte n) (panes.get n).digest.code
    ((panes.get n).digest.value.extractLsb' 0 8) ((panes.get n).digest.value.extractLsb' 8 8)
  rw [digestEntry, hlow, hhigh]
  exact ⟨h0, h1, (halfOf_wordOfBytes_high _ _ _ _).trans (halfOfBytes_bytes _)⟩

theorem digestBody_length (panes : Table Pane 16) (mask : BitVec 16) :
    (digestBody panes mask).length = 1 + (panesOfMask mask).length := by
  simp [digestBody, Nat.add_comm]

theorem digestBody_head (panes : Table Pane 16) (mask : BitVec 16) :
    (digestBody panes mask).getD 0 0 = BitVec.ofNat 32 (panesOfMask mask).length := by
  have h : (panesOfMask mask).length ≤ 16 := (List.length_filter_le _ _).trans (by simp)
  exact wordOfBytes_byte (by omega)

theorem digestBody_entry (panes : Table Pane 16) (mask : BitVec 16) {k : Nat} (h : k < (panesOfMask mask).length) :
    (digestBody panes mask).getD (1 + k) 0 = digestEntry panes (panesOfMask mask)[k] := by
  simp [digestBody, Nat.add_comm 1 k, List.getD_eq_getElem?_getD, h]

/-- Settles O28. -/
theorem digestUnitGoesOn : Obligations.DigestUnitGoesOn := by
  refine ⟨fun s n hn h hlow => digestGoOn_pending hn h hlow, fun s h => digestGoOn_none h,
    fun s h => by simp only [State.examineRequest, h], fun s q hq hslot => ⟨?_, fun hdone => ?_⟩, ?_⟩
  · rintro ⟨n, hn, hbit, hprep⟩
    refine examineRequest_waits hq ?_
    rw [← Bool.not_eq_true, requestComplete_iff]
    intro h
    obtain ⟨h1, h2⟩ := h n hn hbit
    exact hprep.elim h1 h2
  · refine ⟨_, rfl, fun ha => ⟨nextOrder s.dec.slots, fun m hm _ => order_lt_nextOrder _ hm, ?_⟩, fun ha => ?_⟩
    · rw [examineRequest_complete hq ((requestComplete_iff _ _).mpr hdone), finishReply_alive (by exact ha)]
      rfl
    · rw [examineRequest_complete hq ((requestComplete_iff _ _).mpr hdone), finishReply_lost (by exact ha)]
      rfl
  · rintro panes mask numbers rfl
    refine ⟨digestBody_length _ _, digestBody_head _ _, fun k h d hd => ?_⟩
    rw [digestBody_entry panes mask h, hd]
    exact digestEntry_fields _ _

end Sys2Proof.Machine

namespace Sys2Proof.Machine

set_option Elab.async false

open Sys2Proof.Statements

/-! # The upstream lane (R17 to R19, R152, R153, R174, R180) -/

theorem alive_iff (l : LinkState) : l.alive = true ↔ l = .up ∨ l = .quiet := by
  cases l <;> simp [LinkState.alive]

theorem txReady_of {s : State} (h : s.link.state = .up ∨ s.link.state = .quiet) (ht : s.up.transmitter = .idle) :
    s.txReady = true := by
  simp [State.txReady, (alive_iff _).mpr h, ht]

/-! ## The bytes of a frame -/

theorem bytesOfHalf_half (n : Nat) : bytesOfHalf (half n) = [BitVec.ofNat 8 n, BitVec.ofNat 8 (n / 256)] := by
  have hlow : (half n).extractLsb' 0 8 = BitVec.ofNat 8 n := by
    apply BitVec.eq_of_toNat_eq
    simp only [half, BitVec.extractLsb'_toNat, BitVec.toNat_ofNat, Nat.shiftRight_zero]
    omega
  have hhigh : (half n).extractLsb' 8 8 = BitVec.ofNat 8 (n / 256) := by
    apply BitVec.eq_of_toNat_eq
    simp only [half, BitVec.extractLsb'_toNat, BitVec.toNat_ofNat, Nat.shiftRight_eq_div_pow]
    omega
  rw [bytesOfHalf, hlow, hhigh]

/-- The low half of a word is sent as the word's own two lowest bytes. -/
theorem bytesOfHalf_setWidth (w : Word) :
    bytesOfHalf (w.setWidth 16) = [w.extractLsb' 0 8, w.extractLsb' 8 8] := by
  have hlow : (w.setWidth 16).extractLsb' 0 8 = w.extractLsb' 0 8 := by
    apply BitVec.eq_of_toNat_eq
    simp only [BitVec.extractLsb'_toNat, BitVec.toNat_setWidth, Nat.shiftRight_zero]
    omega
  have hhigh : (w.setWidth 16).extractLsb' 8 8 = w.extractLsb' 8 8 := by
    apply BitVec.eq_of_toNat_eq
    simp only [BitVec.extractLsb'_toNat, BitVec.toNat_setWidth, Nat.shiftRight_eq_div_pow]
    omega
  rw [bytesOfHalf, hlow, hhigh]

/-- The eight bytes of a key event (R149). -/
theorem keyEvent_bytes (e : KeyEvent) :
    e.bytes = [if e.kind = .make then 0#8 else 1#8, e.code, byte e.position, byte e.layer, e.stamp.extractLsb' 0 8,
      e.stamp.extractLsb' 8 8, 0#8, 0#8] := by
  have hkind : e.kind.code = if e.kind = .make then 0#8 else 1#8 := by cases e.kind <;> rfl
  rw [KeyEvent.bytes, bytesOfHalf_setWidth, hkind]
  rfl

theorem upFrame_header_length (f : UpFrame) : f.header.length = 6 := rfl

theorem upFrame_bytes_length (f : UpFrame) : f.bytes.length = f.payload.length + 8 := by
  simp [UpFrame.bytes, upFrame_header_length, bytesOfHalf]
  omega

theorem upFrame_header (f : UpFrame) :
    f.header = [(match f.kind with | .keys => 0x81#8 | .reply => 0x82#8 | .notice => 0x83#8), 0#8, f.sequence, 0#8,
      BitVec.ofNat 8 f.payload.length, BitVec.ofNat 8 (f.payload.length / 256)] := by
  rw [UpFrame.header, bytesOfHalf_half]
  cases f.kind <;> rfl

/-- The header comes first. -/
theorem upFrame_take_header (f : UpFrame) : f.bytes.take 6 = f.header := by
  rw [UpFrame.bytes, List.append_assoc, List.take_left' (upFrame_header_length f)]

theorem upFrame_take_checked (f : UpFrame) : f.bytes.take (f.payload.length + 6) = f.header ++ f.payload :=
  List.take_left' (by simp [upFrame_header_length]; omega)

/-- The CRC comes last. -/
theorem upFrame_drop_checked (f : UpFrame) :
    f.bytes.drop (f.payload.length + 6) = bytesOfHalf (crc16 (f.header ++ f.payload)) :=
  List.drop_left' (by simp [upFrame_header_length]; omega)

/-! ## The earliest finished reply -/

theorem mem_finishedSlots {slots : Table Slot 4} {n : Nat} :
    n ∈ finishedSlots slots ↔ n < 4 ∧ (slots.get n).isFinished = true := by
  simp [finishedSlots]

theorem oldestFinished_of {slots : Table Slot 4} {n : Nat} (hn : n < 4) (hf : (slots.get n).isFinished = true)
    (hfirst : ∀ m < 4, m ≠ n → (slots.get m).isFinished = true → (slots.get n).order < (slots.get m).order) :
    oldestFinished slots = some n := by
  have hmem : n ∈ finishedSlots slots := mem_finishedSlots.mpr ⟨hn, hf⟩
  have holdest : ∀ m ∈ finishedSlots slots, (slots.get n).order ≤ (slots.get m).order := fun m hm => by
    obtain ⟨hm4, hmf⟩ := mem_finishedSlots.mp hm
    by_cases h : m = n
    · rw [h]
    · exact (hfirst m hm4 h hmf).le
  cases hfind : oldestFinished slots with
  | none =>
    have := List.find?_eq_none.mp hfind n hmem
    simp only [List.all_eq_true, decide_eq_true_eq] at this
    exact absurd holdest this
  | some k =>
    have hk : ∀ m ∈ finishedSlots slots, (slots.get k).order ≤ (slots.get m).order := by
      simpa using List.find?_some hfind
    obtain ⟨hk4, hkf⟩ := mem_finishedSlots.mp (List.mem_of_find?_eq_some hfind)
    by_contra hne
    have hkn : k ≠ n := fun h => hne (by rw [h])
    exact absurd (hk n hmem) (not_le.mpr (hfirst k hk4 hkn hkf))

theorem oldestFinished_none {slots : Table Slot 4} (h : ∀ n < 4, (slots.get n).isFinished = false) :
    oldestFinished slots = none := by
  have hempty : finishedSlots slots = [] :=
    List.eq_nil_iff_forall_not_mem.mpr fun n hn => by
      obtain ⟨hn4, hf⟩ := mem_finishedSlots.mp hn
      simp [h n hn4] at hf
  rw [oldestFinished, hempty]
  rfl

/-! ## What each source sends -/

section
variable {s : State} (hr : s.resetLine = false) (hl : s.link.state = .up ∨ s.link.state = .quiet)
  (ht : s.up.transmitter = .idle)
include hr hl ht

theorem exec_flowSymbolSend (hp : s.up.flowPending = true) :
    exec .flowSymbolSend s = .next
      { s with up := { s.up with flowPending := false, lastSymbol := some s.rxq.flow } } := by
  have hdue : flowSymbolDue s = true := by simp [flowSymbolDue, txReady_of hl ht, hp]
  rw [exec, execFlowSymbolSend, onEvent_occurs hr hdue]

/-- A KEYS frame starts, its payload as R152 and R153 give it. -/
theorem exec_keysFrameStart (hp : s.up.flowPending = false) (hk : s.keyq.events ≠ []) :
    exec .keysFrameStart s = .next
      { s.startFrame .keys (keysPayload s.keyq s.keys.held) with
        keyq := { s.keyq with
          events := s.keyq.events.drop 8
          overrunPending := s.keyq.overrunPending && !carriesSnapshot s.keyq
          snapshotPending := s.keyq.snapshotPending && !carriesSnapshot s.keyq } } := by
  have hdue : keysDue s = true := by simp [keysDue, txReady_of hl ht, hp, hk]
  rw [exec, execKeysFrameStart, onEvent_occurs hr hdue]

theorem exec_replyFrameStart (hp : s.up.flowPending = false) (hk : s.keyq.events = []) {n : Nat}
    {kind tag : Byte} {status : ReplyStatus} {body : List Word} {order : Nat}
    (hold : oldestFinished s.dec.slots = some n) (hs : s.dec.slots.get n = .finished kind tag status body order) :
    exec .replyFrameStart s = .next ((s.startFrame .reply (replyPayload kind tag status body)).setSlot n .free) := by
  have hdue : replyDue s = true := by simp [replyDue, txReady_of hl ht, hp, hk, hold]
  rw [exec, execReplyFrameStart, onEvent_occurs hr hdue]
  simp only [hold, hs]

theorem exec_noticeFrameStart (hp : s.up.flowPending = false) (hk : s.keyq.events = [])
    (hold : oldestFinished s.dec.slots = none) (hpend : s.status.noticePending = true) :
    exec .noticeFrameStart s = .next (s.startFrame .notice (noticePayload s.status)).clearSummary := by
  have hdue : noticeDue s = true := by simp [noticeDue, txReady_of hl ht, hp, hk, hold, hpend]
  rw [exec, execNoticeFrameStart, onEvent_occurs hr hdue]

end

/-- The payload of a KEYS frame, byte by byte (R149, R152, R153). -/
theorem keysPayload_bytes (q : KeyQueue) (held : List HeldKey) :
    keysPayload q held =
      [byte (min 8 q.events.length), flagByte q.overrunPending, flagByte (carriesSnapshot q),
          byte (if carriesSnapshot q then held else []).length] ++
        ((q.events.take 8).map (fun e =>
          [if e.kind = .make then 0#8 else 1#8, e.code, byte e.position, byte e.layer, e.stamp.extractLsb' 0 8,
            e.stamp.extractLsb' 8 8, 0#8, 0#8])).flatten ++
        ((if carriesSnapshot q then held else []).map (fun h => [byte h.position, h.code, 0#8, 0#8])).flatten := by
  simp only [keysPayload, keysTaken, List.length_take, List.flatMap_def]
  rw [List.map_congr_left (fun e _ => keyEvent_bytes e)]
  rfl

/-- Settles O45: each source is sent where the ones before it have nothing to send. -/
theorem upstreamSources : Obligations.UpstreamSources := by
  refine ⟨fun s hr hl ht => ⟨exec_flowSymbolSend hr hl ht, fun hp hk => ?_⟩,
    fun s hr hl ht hp hk => ⟨fun n kind tag status body order hn hs hfirst => ?_, fun hnone hpend => ?_⟩,
    fun s hr => by rw [exec, execUpstreamFrameEnd, live_released hr],
    fun f _ => ⟨upFrame_bytes_length f, (upFrame_take_header f).trans (upFrame_header f), ?_⟩⟩
  · exact ⟨⟨.keys, s.up.sequence, keysPayload s.keyq s.keys.held⟩, _, _, rfl, rfl, rfl, rfl,
      keysPayload_bytes s.keyq s.keys.held, exec_keysFrameStart hr hl ht hp hk⟩
  · have hold : oldestFinished s.dec.slots = some n :=
      oldestFinished_of hn (by rw [hs]; rfl) (by rw [hs]; exact hfirst)
    rw [exec_replyFrameStart hr hl ht hp hk hold hs, replyPayload, List.flatMap_def]
    rfl
  · rw [exec_noticeFrameStart hr hl ht hp hk (oldestFinished_none hnone) hpend, noticePayload, bytesOfHalf_setWidth]
    rfl
  · rw [upFrame_drop_checked, upFrame_take_checked]

end Sys2Proof.Machine

namespace Sys2Proof.Machine

set_option Elab.async false

open Sys2Proof.Statements

/-! # What the part does with no command waiting (assumption log 3, 4, 5, 17, 24, 26) -/

/-! ## The order of steps that fall together -/

theorem arrange_perm (turn : Nat) : ∀ cs : List Instr, (arrange turn cs).Perm cs
  | [] => .nil
  | [c] => .refl [c]
  | c :: d :: rest => by
    have ih := arrange_perm turn (d :: rest)
    have hpos : Config.eventOrder turn rest.length % (rest.length + 2) ≤ (arrange turn (d :: rest)).length := by
      rw [ih.length_eq, List.length_cons]
      exact Nat.lt_succ_iff.mp (Nat.mod_lt _ (Nat.succ_pos _))
    exact (List.perm_insertIdx c _ hpos).trans (ih.cons c)

theorem step_idle {s : State} (h : s.pending = []) : step s = .next s.idle := by simp only [step, h]

theorem queueSteps_eq {s : State} (h : s.pending = []) (cs : List Instr) :
    s.queueSteps cs = { s with pending := arrange s.turn cs, turn := s.turn + 1 } := by
  rw [State.queueSteps, h, List.nil_append]

/-! ## The draw engine's progress -/

theorem engineRuns_free {s : State} (hc : s.engine.holder ≠ .clearPass) (hj : s.engine.job = none) :
    s.engineRuns = s := by
  simp [State.engineRuns, hc, hj]

theorem engineRuns_job {s : State} (hc : s.engine.holder ≠ .clearPass) {job : Job} (hj : s.engine.job = some job) :
    s.engineRuns = { s.paint job (job.todo.take (min (job.todo.length - 1) (Config.engineProgress s.turn))) with
      engine := { s.engine with
        job := some { job with todo := job.todo.drop (min (job.todo.length - 1) (Config.engineProgress s.turn)) } }
      turn := s.turn + 1 } := by
  simp [State.engineRuns, hc, hj, State.setEngine]

/-- All that a touch changes: panes, the digest unit, the reply slots and the counters (R54, R98, R99). -/
def OnlyDigests (s t : State) : Prop :=
  t = { s with
    panes := t.panes
    digest := t.digest
    dec := { s.dec with slots := t.dec.slots }
    status := { s.status with counters := t.status.counters } }

theorem OnlyDigests.trans {s t u : State} (hst : OnlyDigests s t) (htu : OnlyDigests t u) : OnlyDigests s u := by
  unfold OnlyDigests at htu
  rw [hst] at htu
  exact htu

theorem finishReply_onlyDigests (s : State) (n : Nat) (k t : Byte) (e : ReplyStatus) (b : List Word) :
    OnlyDigests s (s.finishReply n k t e b) := by
  unfold State.finishReply
  split <;> rfl

theorem examineRequest_onlyDigests (s : State) : OnlyDigests s s.examineRequest := by
  unfold State.examineRequest
  split
  next => rfl
  next =>
    split
    · exact OnlyDigests.trans (t := { s with digest := { s.digest with work := .idle, request := none } }) rfl
        (finishReply_onlyDigests ..)
    · rfl

theorem digestGoOn_onlyDigests (s : State) : OnlyDigests s s.digestGoOn := by
  unfold State.digestGoOn
  split
  next => rfl
  next => exact examineRequest_onlyDigests s

theorem touchWhere_onlyDigests (s : State) (hit : Pane → Bool) : OnlyDigests s (s.touchWhere hit) := by
  have hpanes : OnlyDigests s { s with panes := s.panes.mapIdx (fun _ p => p.touchedBy hit) } := rfl
  unfold State.touchWhere
  dsimp only
  split
  · exact hpanes.trans (OnlyDigests.trans
      (t := { s with
        panes := s.panes.mapIdx (fun _ p => p.touchedBy hit), digest := { s.digest with running := none } })
      rfl (digestGoOn_onlyDigests _))
  · exact hpanes

/-- How far the clear pass comes in a millisecond: never past the pixel before the last. -/
def clearsTo (s : State) : Nat := min (storePixels - 1) (s.engine.cleared + Config.engineProgress s.turn)

theorem engineRuns_clearPass {s : State} (hc : s.engine.holder = .clearPass) :
    s.engineRuns = { s.clearUpTo (clearsTo s) with turn := s.turn + 1 } := by
  simp [State.engineRuns, hc, clearsTo]

theorem engineRuns_clearPass_eq {s : State} (hc : s.engine.holder = .clearPass) :
    s.engineRuns = { s with
      store := s.engineRuns.store
      panes := s.engineRuns.panes
      digest := s.engineRuns.digest
      dec := { s.dec with slots := s.engineRuns.dec.slots }
      status := { s.status with counters := s.engineRuns.status.counters }
      engine := { s.engine with cleared := clearsTo s }
      turn := s.turn + 1 } := by
  have htouch : OnlyDigests
      { s with
        store := clearCells s.store s.engine.cleared (clearsTo s)
        engine := { s.engine with cleared := clearsTo s } }
      (s.clearUpTo (clearsTo s)) := touchWhere_onlyDigests _ _
  rw [engineRuns_clearPass hc]
  rw [htouch]

theorem engineRuns_clearPass_pixel {s : State} (hc : s.engine.holder = .clearPass) (x y : Nat) :
    s.engineRuns.pixel x y =
      if s.engine.cleared ≤ 1280 * y + x ∧ 1280 * y + x < clearsTo s then 0 else s.pixel x y := by
  have haddr : pixelAddress x y = 1280 * y + x := by rw [pixelAddress, Nat.mul_comm]
  rw [engineRuns_clearPass hc, ← haddr]
  exact State.pixel_clearUpTo s (clearsTo s) x y

/-- With no digest VALID or RUNNING a clear pass changes no pane (R54). -/
theorem engineRuns_clearPass_quiet {s : State} (hc : s.engine.holder = .clearPass)
    (hd : ∀ n < 16, (s.panes.get n).digest = .none) (hrun : s.digest.running = none) :
    s.engineRuns.panes = s.panes ∧ s.engineRuns.digest = s.digest ∧ s.engineRuns.dec = s.dec ∧
      s.engineRuns.status = s.status := by
  have hquiet : s.clearUpTo (clearsTo s) = { s with
      store := clearCells s.store s.engine.cleared (clearsTo s)
      engine := { s.engine with cleared := clearsTo s } } :=
    State.touchWhere_quiet _ _ (fun n hn => by rw [hd n hn]; rfl) hrun
  rw [engineRuns_clearPass hc, hquiet]
  exact ⟨rfl, rfl, rfl, rfl⟩

/-! ## The scan and the timers -/

theorem scanRuns_timersRun (u : State) :
    u.scanRuns.timersRun = { u with
      scan := { u.scan with scanned :=
        if u.panel.state.scanning then min (1280 * 800 - 1) (u.scan.scanned + Config.scanProgress u.turn)
        else u.scan.scanned }
      turn := if u.panel.state.scanning then u.turn + 1 else u.turn
      status := { u.status with timeBase := u.status.timeBase + 1 }
      link := { u.link with stability := u.link.stability + 1, silence := u.link.silence + 1 }
      panel := { u.panel with state := u.panel.state.later }
      keys := { u.keys with sinceScan := u.keys.sinceScan + 1 }
      power := { u.power with
        oscillator := u.power.oscillator.map (· + 1)
        outage := u.power.outage.map (· + 1)
        dozeTimer := u.power.dozeTimer + (if u.link.state = .absent ∧ u.power.device = .active then 1 else 0) } } := by
  have hpower : u.power.later u.link.state = { u.power with
      oscillator := u.power.oscillator.map (· + 1)
      outage := u.power.outage.map (· + 1)
      dozeTimer := u.power.dozeTimer + (if u.link.state = .absent ∧ u.power.device = .active then 1 else 0) } := by
    unfold Power.later
    split <;> rfl
  rw [← hpower]
  unfold State.scanRuns
  split <;> rfl

theorem tick_eq {s : State} (h : s.pending = []) :
    s.tick = { s.engineRuns.scanRuns.timersRun with
      pending := arrange s.engineRuns.scanRuns.timersRun.turn (timedSteps s.engineRuns.scanRuns.timersRun)
      turn := s.engineRuns.scanRuns.timersRun.turn + 1 } := by
  rw [State.tick]
  exact queueSteps_eq (by simp [h]) _

/-! ## The steps whose time has come -/

theorem mem_dueStep {due : Bool} {c d : Instr} : c ∈ dueStep due d ↔ c = d ∧ due = true := by
  cases due <;> simp [dueStep]

theorem presenceClosedDue_iff (s : State) : presenceClosedDue s = true ↔
    s.link.contact = .closed ∧ s.link.presence = .opened ∧ 20 ≤ s.link.stability := by
  simp [presenceClosedDue, and_assoc]

theorem presenceOpenDue_iff (s : State) : presenceOpenDue s = true ↔
    s.link.contact = .opened ∧ s.link.presence = .closed ∧ 50 ≤ s.link.stability := by
  simp [presenceOpenDue, and_assoc]

theorem oscillatorDue_iff (s : State) : oscillatorDue s = true ↔
    s.power.device = .waking ∧ ∃ t, s.power.oscillator = some t ∧ 4 ≤ t := by
  unfold oscillatorDue
  cases s.power.oscillator <;> simp

theorem dozeExpired_iff (s : State) : dozeExpired s = true ↔
    s.power.device = .active ∧ s.link.state = .absent ∧ s.power.dozeDelay ≤ s.power.dozeTimer := by
  simp [dozeExpired, and_assoc]

theorem bannerDelayReached_iff (s : State) : bannerDelayReached s = true ↔
    s.power.bannerPlayed = false ∧ s.power.bannerDue = false ∧
      ∃ t, s.power.outage = some t ∧ s.power.bannerDelay ≤ t := by
  unfold bannerDelayReached
  cases s.power.outage <;> simp [and_comm, and_left_comm]

theorem powerUpDue_iff (s : State) : powerUpDue s = true ↔ ∃ t, s.panel.state = .powerUp t ∧ 120 ≤ t := by
  unfold powerUpDue
  cases s.panel.state <;> simp

theorem powerDownDue_iff (s : State) : powerDownDue s = true ↔ ∃ t, s.panel.state = .stopping t ∧ 20 ≤ t := by
  unfold powerDownDue
  cases s.panel.state <;> simp

theorem mem_timedSteps (s : State) (c : Instr) : c ∈ timedSteps s ↔
    (c = .presenceClosed ∧ s.link.contact = .closed ∧ s.link.presence = .opened ∧ 20 ≤ s.link.stability) ∨
    (c = .presenceOpen ∧ s.link.contact = .opened ∧ s.link.presence = .closed ∧ 50 ≤ s.link.stability) ∨
    (c = .silenceTimeout ∧ s.link.state = .up ∧ s.link.silenceTimeout ≤ s.link.silence) ∨
    (c = .oscillatorWaitEnd ∧ s.power.device = .waking ∧ ∃ t, s.power.oscillator = some t ∧ 4 ≤ t) ∨
    (c = .dozeTimerExpiry ∧ s.power.device = .active ∧ s.link.state = .absent ∧
      s.power.dozeDelay ≤ s.power.dozeTimer) ∨
    (c = .bannerDelayExpiry ∧ s.power.bannerPlayed = false ∧ s.power.bannerDue = false ∧
      ∃ t, s.power.outage = some t ∧ s.power.bannerDelay ≤ t) ∨
    (c = .powerUpEnd ∧ ∃ t, s.panel.state = .powerUp t ∧ 120 ≤ t) ∨
    (c = .powerDownEnd ∧ ∃ t, s.panel.state = .stopping t ∧ 20 ≤ t) := by
  simp only [timedSteps, List.mem_append, mem_dueStep, or_assoc, presenceClosedDue_iff, presenceOpenDue_iff,
    silenceDue_iff, oscillatorDue_iff, dozeExpired_iff, bannerDelayReached_iff, powerUpDue_iff, powerDownDue_iff]

/-! ## The steps called for at once -/

theorem takeDue_iff (s : State) : takeDue s = true ↔
    s.dec.state = .idle ∧ s.rxq.frames ≠ [] ∧ (s.power.device = .active ∨ s.power.device = .entering) ∧
      s.engine.holder ≠ .banner ∧ s.engine.holder ≠ .clearPass := by
  simp [takeDue, and_assoc]

theorem freeSlot_isSome_iff (s : State) : s.freeSlot.isSome = true ↔ ∃ n < 4, s.dec.slots.get n = .free := by
  constructor
  · intro h
    by_contra hnone
    rw [freeSlot_none fun m hm hfree => hnone ⟨m, hm, hfree⟩] at h
    exact absurd h (by decide)
  · rintro ⟨n, hn, hfree⟩
    by_contra hnone
    have h : s.dec.slots.findFirst Slot.isFree = none := by simpa [State.freeSlot] using hnone
    have := Table.findFirst_none.mp h n hn
    simp [hfree, Slot.isFree] at this

theorem waitsForEngine_iff (s : State) (f : RxFrame) (r : Record) : waitsForEngine s f r = true ↔
    isDrawCode r.kind = true ∧ f.kind = .draw ∧ s.engine.holder ≠ .free := by
  simp [waitsForEngine, and_assoc]

theorem atCursor_walking {s : State} {k : Nat} {f : RxFrame} {rest : List RxFrame}
    (hd : s.dec.state = .walking k) (hf : s.rxq.frames = f :: rest) :
    s.atCursor = (readRecord (f.payload.drop k)).map (fun v => (f, v)) := by
  simp [State.atCursor, hd, hf, DecoderState.cursor?]

theorem atCursor_no_frames {s : State} (hf : s.rxq.frames = []) : s.atCursor = none := by
  unfold State.atCursor
  rw [hf]
  cases s.dec.state.cursor? <;> rfl

/-- The steps for the record at the cursor (R25, R26, R73). -/
def recordSteps (s : State) (f : RxFrame) : Option RecordView → List Instr
  | some .broken => [.brokenRecord]
  | some (.whole r) => if waitsForEngine s f r then [] else [recordCommand r]
  | none => []

theorem decoderSteps_walking {s : State} {k : Nat} {f : RxFrame} {rest : List RxFrame}
    (hd : s.dec.state = .walking k) (hf : s.rxq.frames = f :: rest) :
    decoderSteps s = recordSteps s f (readRecord (f.payload.drop k)) := by
  simp only [decoderSteps, hd, atCursor_walking hd hf]
  rcases readRecord (f.payload.drop k) with _ | _ | r <;> rfl

theorem decoderSteps_no_frames {s : State} {k : Nat} (hd : s.dec.state = .walking k) (hf : s.rxq.frames = []) :
    decoderSteps s = [] := by
  simp only [decoderSteps, hd, atCursor_no_frames hf]

theorem mem_recordSteps {s : State} {f : RxFrame} {v : Option RecordView} {c : Instr} :
    c ∈ recordSteps s f v ↔
      (c = .brokenRecord ∧ v = some .broken) ∨
      ∃ r, v = some (.whole r) ∧ c = recordCommand r ∧
        ¬ (isDrawCode r.kind = true ∧ f.kind = .draw ∧ s.engine.holder ≠ .free) := by
  rcases v with _ | r | _
  · simp [recordSteps]
  · rw [recordSteps]
    simp only [Option.some.injEq, RecordView.whole.injEq, exists_eq_left', ← waitsForEngine_iff]
    cases waitsForEngine s f r <;> simp
  · simp [recordSteps]

theorem mem_decoderSteps (s : State) (c : Instr) : c ∈ decoderSteps s ↔
    (c = .frameTake ∧ s.dec.state = .idle ∧ s.rxq.frames ≠ [] ∧
      (s.power.device = .active ∨ s.power.device = .entering) ∧
      s.engine.holder ≠ .banner ∧ s.engine.holder ≠ .clearPass) ∨
    (∃ k f rest, s.dec.state = .walking k ∧ s.rxq.frames = f :: rest ∧
      ((c = .brokenRecord ∧ readRecord (f.payload.drop k) = some .broken) ∨
        ∃ r, readRecord (f.payload.drop k) = some (.whole r) ∧ c = recordCommand r ∧
          ¬ (isDrawCode r.kind = true ∧ f.kind = .draw ∧ s.engine.holder ≠ .free))) ∨
    (c = .slotGranted ∧ (∃ k, s.dec.state = .slotWait k) ∧ ∃ n < 4, s.dec.slots.get n = .free) := by
  cases hd : s.dec.state with
  | idle =>
    have htake := takeDue_iff s
    simp only [hd, true_and] at htake
    simp only [decoderSteps, hd, ← htake]
    cases takeDue s <;> simp
  | syncWait => simp [decoderSteps, hd]
  | walking k =>
    cases hf : s.rxq.frames with
    | nil => simp [decoderSteps_no_frames hd hf]
    | cons f rest =>
      rw [decoderSteps_walking hd hf, mem_recordSteps]
      simp
  | slotWait k =>
    simp only [decoderSteps, hd, ← freeSlot_isSome_iff]
    cases s.freeSlot <;> simp

theorem txReady_iff (s : State) : s.txReady = true ↔
    (s.link.state = .up ∨ s.link.state = .quiet) ∧ s.up.transmitter = .idle := by
  simp [State.txReady, alive_iff]

theorem oldestFinished_isSome_iff (slots : Table Slot 4) :
    (oldestFinished slots).isSome = true ↔ ∃ n < 4, (slots.get n).isFinished = true := by
  constructor
  · intro h
    by_contra hnone
    rw [oldestFinished_none fun n hn => by simpa using fun hf => hnone ⟨n, hn, hf⟩] at h
    exact absurd h (by decide)
  · rintro ⟨n, hn, hf⟩
    have hmem : n ∈ finishedSlots slots := mem_finishedSlots.mpr ⟨hn, hf⟩
    cases hmin : (finishedSlots slots).argmin (fun n => (slots.get n).order) with
    | none =>
      rw [List.argmin_eq_none.mp hmin] at hmem
      exact absurd hmem List.not_mem_nil
    | some k =>
      rw [oldestFinished, List.find?_isSome]
      exact ⟨k, List.argmin_mem hmin, by simpa using fun m hm => List.le_of_mem_argmin hm hmin⟩

theorem oldestFinished_isNone_iff (slots : Table Slot 4) :
    (oldestFinished slots).isNone = true ↔ ∀ n < 4, (slots.get n).isFinished = false := by
  rw [← Bool.not_eq_false, Option.isNone_eq_false_iff, oldestFinished_isSome_iff]
  simp

theorem mem_transmitterSteps (s : State) (c : Instr) : c ∈ transmitterSteps s ↔
    (s.link.state = .up ∨ s.link.state = .quiet) ∧ s.up.transmitter = .idle ∧
      ((c = .flowSymbolSend ∧ s.up.flowPending = true) ∨
        (c = .keysFrameStart ∧ s.up.flowPending = false ∧ s.keyq.events ≠ []) ∨
        (c = .replyFrameStart ∧ s.up.flowPending = false ∧ s.keyq.events = [] ∧
          ∃ n < 4, (s.dec.slots.get n).isFinished = true) ∨
        (c = .noticeFrameStart ∧ s.up.flowPending = false ∧ s.keyq.events = [] ∧
          (∀ n < 4, (s.dec.slots.get n).isFinished = false) ∧ s.status.noticePending = true)) := by
  rw [← and_assoc, ← txReady_iff, ← oldestFinished_isSome_iff, ← oldestFinished_isNone_iff]
  unfold transmitterSteps flowSymbolDue keysDue replyDue noticeDue
  cases s.txReady with
  | false => simp
  | true =>
    cases s.up.flowPending with
    | true => simp
    | false =>
      cases s.keyq.events with
      | cons e es => simp
      | nil =>
        cases oldestFinished s.dec.slots with
        | some n => simp
        | none => cases s.status.noticePending <;> simp

theorem bannerGrantDue_iff (s : State) : bannerGrantDue s = true ↔
    s.power.bannerDue = true ∧ s.engine.holder = .free ∧ s.power.device = .active ∧ s.rxq.frames = [] ∧
      s.dec.state = .idle := by
  simp [bannerGrantDue, and_assoc]

theorem passDue_iff (s : State) : passDue s = true ↔
    s.power.device = .entering ∧ s.rxq.frames = [] ∧ s.dec.state = .idle ∧ s.engine.holder = .free ∧
      s.digest.work = .idle := by
  simp [passDue, and_assoc]

theorem stepsCalledFor_eq (s : State) : stepsCalledFor s =
    decoderSteps s ++ transmitterSteps s ++ dueStep (bannerGrantDue s) .bannerGrant ++
      dueStep (passDue s) .retentionPassStart := rfl

/-! ## The step of a record (R181) -/

theorem recordCommand_table (r : Record) :
    ∀ p ∈ [(0x10, Instr.fill), (0x11, .clear), (0x12, .glyph), (0x13, .planes), (0x14, .move), (0x15, .keymove),
        (0x20, .loadPen), (0x21, .loadPane), (0x22, .loadPalette), (0x23, .loadShade), (0x24, .loadKeymap),
        (0x25, .loadBanner), (0x26, .setBanner), (0x27, .setView), (0x29, .backlight), (0x2A, .lamps), (0x2B, .setLink),
        (0x2C, .setKeys), (0x2D, .setOutage), (0x2E, .setNotice), (0x2F, .doze), (0x30, .reset), (0x31, .clearCounts),
        (0x38, .askStatus), (0x39, .askDigest), (0x3A, .askCell), (0x3B, .askTable), (0x3C, .askId)],
      r.kind.toNat = p.1 → recordCommand r = p.2 := by
  intro p hp hk
  fin_cases hp <;> simp only [recordCommand, hk]

theorem recordCommand_panel {r : Record} (hk : r.kind = 0x28) (hb : r.body ≠ []) :
    ∀ p ∈ [(0, Instr.panelStart), (1, .panelStop), (2, .panelFull), (3, .panelPartial), (4, .panelIdleOn),
        (5, .panelIdleOff), (6, .panelShow), (7, .panelBlank)],
      byteAt r 0 0 = p.1 → recordCommand r = p.2 := by
  have haction : panelActionOf r = PanelAction.ofCode (byteOf (wordAt r.body 0) 0) := by
    cases h : r.body with
    | nil => exact absurd h hb
    | cons w ws => simp [panelActionOf, h, wordAt]
  have hcommand : recordCommand r = panelCommand r := by simp [recordCommand, hk]
  intro p hp hcode
  rw [byteAt] at hcode
  fin_cases hp <;> simp only [hcommand, panelCommand, haction, PanelAction.ofCode, hcode]

theorem recordCommand_unknown {r : Record} (hdraw : ¬ (0x10 ≤ r.kind.toNat ∧ r.kind.toNat ≤ 0x15))
    (hctrl : ¬ (0x20 ≤ r.kind.toNat ∧ r.kind.toNat ≤ 0x31))
    (hask : ¬ (0x38 ≤ r.kind.toNat ∧ r.kind.toNat ≤ 0x3C)) : recordCommand r = .unknownRecord := by
  unfold recordCommand
  split
  case h_30 => rfl
  all_goals omega

/-- Settles O2: the part's own running is `State.idle`, and its two lists of steps are read off member by member. -/
theorem emptyQueueRunsOn : Obligations.EmptyQueueRunsOn := by
  refine ⟨fun s hp => ⟨fun hr => ?_, fun hr hcalled => ?_, fun hr hcalled => ?_⟩, mem_timedSteps, fun s c => ?_,
    fun r => ⟨recordCommand_table r, recordCommand_panel, recordCommand_unknown⟩⟩
  · rw [step_idle hp, State.idle, if_pos hr]
  · refine ⟨arrange s.turn (stepsCalledFor s), arrange_perm _ _, ?_⟩
    rw [step_idle hp, State.idle, if_neg (by simp [hr]), if_neg hcalled, queueSteps_eq hp]
  · refine ⟨Config.engineProgress s.turn, Config.scanProgress s.engineRuns.turn, _, s.engineRuns,
      s.engineRuns.scanRuns.timersRun, engineRuns_free, ?_, fun hc => ⟨engineRuns_clearPass_eq hc,
        fun x y _ _ => engineRuns_clearPass_pixel hc x y, engineRuns_clearPass_quiet hc⟩, ?_,
      arrange_perm s.engineRuns.scanRuns.timersRun.turn _, ?_⟩
    · rintro hc job n hj rfl
      exact engineRuns_job hc hj
    · rw [scanRuns_timersRun]
      cases h : s.engineRuns.panel.state <;> rfl
    · rw [step_idle hp, State.idle, if_neg (by simp [hr]), if_pos hcalled, tick_eq hp]
  · rw [stepsCalledFor_eq]
    simp only [List.mem_append, mem_dueStep, mem_decoderSteps, mem_transmitterSteps, bannerGrantDue_iff, passDue_iff,
      or_assoc]

end Sys2Proof.Machine

namespace Sys2Proof.Machine

set_option Elab.async false

open Sys2Proof.Statements

/-! # The state after a hardware reset (R163) -/

/-! ## What the tables hold -/

theorem reset_slot {n : Nat} (h : n < 4) : State.reset.dec.slots.get n = .free := Table.get_ofFn _ h

theorem reset_pane {n : Nat} (h : n < 16) : State.reset.panes.get n = Pane.atReset n := Table.get_ofFn _ h

theorem reset_pen {n : Nat} (h : n < 32) : State.reset.engine.pens.get n = Pen.atReset := Table.get_ofFn _ h

theorem reset_pendingSet {n : Nat} (h : n < 16) : State.reset.digest.pendingSet.get n = false := Table.get_ofFn _ h

theorem reset_palette {i : Nat} (h : i < 256) : State.reset.colour.palette.get i = PaletteEntry.atReset i :=
  Table.get_ofFn _ h

theorem reset_shadeSet {n : Nat} (h : n < 4) : State.reset.colour.sets.get n = ShadeSet.atReset := Table.get_ofFn _ h

theorem reset_shaded {k : Nat} (h : k < 1024) : State.reset.colour.shaded.get k = shadedAtReset k :=
  Table.get_ofFn _ h

theorem reset_recompute {k : Nat} (h : k < 1024) : State.reset.colour.recompute.get k = false := Table.get_ofFn _ h

theorem reset_accepted {p : Nat} (h : p < 128) : State.reset.keys.accepted.get p = false := Table.get_ofFn _ h

theorem reset_debounceCounter {p : Nat} (h : p < 128) : State.reset.keys.counters.get p = 0 := Table.get_ofFn _ h

theorem reset_lamp {n : Nat} (h : n < 7) : State.reset.keys.lamps.get n = false := Table.get_ofFn _ h

theorem reset_bannerByte {n : Nat} (h : n < 256) : State.reset.power.bannerStore.get n = 0 := Table.get_ofFn _ h

theorem reset_counter {n : Nat} (h : n < 15) : State.reset.status.counters.get n = 0 := Table.get_ofFn _ h

/-- In either layer a key has its own position as its code (R142). -/
theorem reset_keymapEntry {l p : Nat} (hl : l < 2) (hp : p < 128) :
    State.reset.keys.entry l p = { code := BitVec.ofNat 8 p, action := .key } := by
  have hentry : State.reset.keys.entry l p = KeymapEntry.atReset (l * 128 + p) := Table.get_ofFn _ (by omega)
  have hmod : (l * 128 + p) % 128 = p := by omega
  rw [hentry, KeymapEntry.atReset, hmod]

/-! ## The colours -/

/-- Gain 256 and offset 0 leave a channel as it is (R112, R114). -/
theorem panelValue_unity {c : Nat} (h : c ≤ 1023) : panelValue false c 256 0 = min 63 ((c + 8) / 16) := by
  have hgained : gained c 256 = c := by unfold gained; omega
  have hkept : saturated (offsetted c 256 0) = c := by
    rw [offsetted, hgained, saturated, if_neg (by omega), if_neg (by omega)]
    omega
  simp only [panelValue, hkept, reduced, Bool.false_eq_true, if_false]

/-- The shaded palette is what the shade arithmetic gives for the tables of a reset (R114). -/
theorem reset_shaded_current {k : Nat} (h : k < 1024) :
    State.reset.colour.shaded.get k =
      shadedValues (State.reset.colour.palette.get (k % 256)) (State.reset.colour.sets.get (k / 256)) := by
  have hramp : k % 256 * 4 + k % 256 / 64 ≤ 1023 := by omega
  rw [reset_shaded h, reset_palette (by omega), reset_shadeSet (by omega)]
  simp only [shadedAtReset, shadedValues, PaletteEntry.atReset, ShadeSet.atReset, panelValue_unity hramp]

/-- Settles O3, block by block. -/
theorem resetLeavesTheStatedValues : Obligations.ResetLeavesTheStatedValues := by
  refine ⟨⟨rfl, rfl, rfl, rfl, rfl, rfl, rfl, rfl, rfl, rfl, rfl⟩, ⟨rfl, fun n hn => reset_slot hn, rfl⟩,
    ⟨?_, ?_, ?_, fun n hn hpos => ?_, fun n hn => ?_⟩, ⟨rfl, fun n hn => reset_pen hn⟩,
    ⟨rfl, fun n hn => reset_pendingSet hn, rfl, rfl⟩,
    ⟨fun i hi => ?_, fun n hn => ?_, fun k hk => ⟨reset_shaded_current hk, reset_recompute hk⟩⟩,
    ⟨rfl, rfl, rfl, rfl⟩, ⟨rfl, rfl, rfl, rfl, rfl, rfl, rfl, rfl, rfl, rfl⟩,
    ⟨fun p hp => ⟨reset_accepted hp, reset_debounceCounter hp⟩, rfl, fun l hl p hp => reset_keymapEntry hl hp, rfl,
      fun n hn => reset_lamp hn, rfl, rfl, rfl, rfl⟩,
    ⟨rfl, rfl, rfl, rfl, rfl, rfl, rfl, fun n hn => reset_bannerByte hn, rfl⟩,
    ⟨rfl, rfl, rfl, rfl, fun n hn => reset_counter hn⟩⟩
  · rw [reset_pane (by omega)]; rfl
  · rw [reset_pane (by omega)]; rfl
  · rw [reset_pane (by omega)]; rfl
  · have hne : n ≠ 0 := by omega
    simp [reset_pane hn, Pane.atReset, hne]
  · rw [reset_pane hn]
    exact ⟨rfl, rfl, rfl, rfl, rfl, rfl, rfl, rfl⟩
  · rw [reset_palette hi]
    exact ⟨rfl, rfl⟩
  · rw [reset_shadeSet hn]
    exact ⟨rfl, rfl, rfl⟩

/-! ## The invariants -/

theorem reset_storeSound : StoreSound State.reset where
  canonical := rfl
  pixels _ hc := absurd hc List.not_mem_nil
  panes :=
    { whole := by rw [reset_pane (by omega)]; exact ⟨rfl, rfl, rfl, rfl, rfl⟩
      inside := fun n hn => by
        rw [reset_pane hn, Pane.inStore, Pane.atReset]
        cases n <;> simp }
  job _ hjob := by cases hjob

theorem reset_linkSound : LinkSound State.reset where
  presence := ⟨fun _ => rfl, fun _ => rfl⟩
  replies n hn hf := by
    rw [reset_slot hn] at hf
    cases hf
  notice h := by cases h

theorem reset_assemblySound : AssemblySound State.reset := fun _ h => by cases h

theorem reset_queueSound : QueueSound State.reset where
  frames := Nat.zero_le _
  bytes := Nat.zero_le _
  payloads _ hf := absurd hf List.not_mem_nil
  go _ := ⟨by decide, by decide⟩
  hold h := by cases h

theorem reset_decoderSound : DecoderSound State.reset where
  syncWait h := by cases h
  cursor _ h := by cases h
  slotWait _ h := by cases h

theorem reset_workSound : WorkSound State.reset where
  serving := by decide
  doze h := by cases h
  away h := by rcases h with h | h <;> cases h
  pass _ h := by cases h
  check _ _ h := by cases h
  clearing _ h := by cases h
  retention h := by cases h
  oscillator h := by cases h
  waking h := by cases h
  banner := ⟨by decide, fun h => by cases h⟩
  decoder h := by cases h
  clearPass _ := rfl
  job h := by cases h
  held h := by cases h

theorem reset_clearSound : ClearSound State.reset where
  bound := by decide
  away _ := rfl
  blank _ _ hc := absurd hc List.not_mem_nil

/-- No pane is being digested (R94). -/
theorem reset_pane_digest {n : Nat} (hn : n < 16) : (State.reset.panes.get n).digest = .none := by
  rw [reset_pane hn]
  rfl

theorem reset_digestSound : DigestSound State.reset where
  pending n hn := by simp [reset_pendingSet hn, reset_pane_digest hn]
  running n hn := by
    rw [reset_pane_digest hn]
    exact ⟨fun h => (by cases h), fun h => (by cases h)⟩
  runningPane _ h := by cases h
  valid n hn h := by
    rw [reset_pane_digest hn] at h
    cases h
  atWork := rfl
  goesOn _ n hn := reset_pendingSet hn
  mask _ h := by cases h
  slot m hm := by
    rintro ⟨k, t, h⟩
    rw [reset_slot hm] at h
    cases h

theorem reset_panelSound : PanelSound State.reset where
  pendingView h := absurd rfl h
  pendingDisplay h := absurd rfl h
  pendingArea h := absurd rfl h
  pendingIdle h := absurd rfl h
  blank _ h := by cases h
  requestStart h := by cases h
  requestStop h := by cases h
  dark _ := rfl
  levels := ⟨Nat.zero_le _, Nat.zero_le _⟩
  active := by unfold View.inRange; decide
  pending _ h := by cases h
  area := True.intro
  nextArea _ h := by cases h
  frame := by decide
  noFrame _ := rfl

theorem reset_dozingPanel : DozingPanel State.reset := fun _ => .inl rfl

theorem reset_colourSound : ColourSound State.reset where
  palette i hi := by
    rw [reset_palette hi]
    simp only [PaletteEntry.atReset]
    omega
  gains n hn := by rw [reset_shadeSet hn]; decide
  offsets n hn := by rw [reset_shadeSet hn]; decide
  shaded k hk := by
    rw [reset_shaded hk]
    simp only [shadedAtReset]
    omega
  current k hk _ := reset_shaded_current hk

theorem reset_keysSound : KeysSound State.reset where
  events := Nat.zero_le _
  held := Nat.zero_le _
  once := List.nodup_nil
  pressed _ hh := absurd hh List.not_mem_nil
  debounce := by decide
  counters p hp := by rw [reset_debounceCounter hp]; exact Nat.zero_le _

theorem reset_countersSound : CountersSound State.reset := fun i hi => by
  rw [reset_counter hi]
  exact Nat.zero_le _

/-- Settles O60. -/
theorem resetIsSound : Obligations.ResetIsSound :=
  ⟨reset_storeSound, reset_linkSound, reset_assemblySound, reset_queueSound, reset_decoderSound, reset_workSound,
    reset_clearSound, reset_digestSound, reset_panelSound, reset_dozingPanel, reset_colourSound, reset_keysSound,
    reset_countersSound⟩

end Sys2Proof.Machine

namespace Sys2Proof.Machine

set_option Elab.async false

/-! # What every step keeps of the frame decoder (R22 to R26, R34) -/

/-! ## What leaves the decoder's state as it is -/

section

variable (s : State)

@[simp] theorem finishReply_decoder (n : Nat) (k t : Byte) (e : ReplyStatus) (b : List Word) :
    (s.finishReply n k t e b).dec.state = s.dec.state := by
  unfold State.finishReply
  split <;> rfl

@[simp] theorem setSlot_decoder (n : Nat) (v : Slot) : (s.setSlot n v).dec.state = s.dec.state := rfl

@[simp] theorem giveUpUpstream_decoder : s.giveUpUpstream.dec.state = s.dec.state := rfl

@[simp] theorem enterAbsent_decoder : s.enterAbsent.dec.state = s.dec.state := by simp [State.enterAbsent]

@[simp] theorem examineRequest_decoder : s.examineRequest.dec.state = s.dec.state := by
  rw [examineRequest_onlyDigests s]

@[simp] theorem digestGoOn_decoder : s.digestGoOn.dec.state = s.dec.state := by rw [digestGoOn_onlyDigests s]

@[simp] theorem abandonRun_decoder : s.abandonRun.dec.state = s.dec.state := digestGoOn_decoder _

@[simp] theorem touchWhere_decoder (hit : Pane → Bool) : (s.touchWhere hit).dec.state = s.dec.state := by
  rw [touchWhere_onlyDigests s hit]

@[simp] theorem clearUpTo_decoder (hi : Nat) : (s.clearUpTo hi).dec.state = s.dec.state := touchWhere_decoder _ _

@[simp] theorem acceptDigestRequest_decoder (q : DigestRequest) :
    (s.acceptDigestRequest q).dec.state = s.dec.state := by
  unfold State.acceptDigestRequest
  dsimp only
  split <;> simp

@[simp] theorem forgetPane_decoder (n : Nat) : (s.forgetPane n).dec.state = s.dec.state := by
  unfold State.forgetPane
  dsimp only
  split
  · simp
  · split <;> simp

@[simp] theorem loadPaneEffect_decoder (r : Record) :
    (loadPaneEffect r s).dec.state = s.dec.state ∧ (loadPaneEffect r s).rxq = s.rxq ∧
      (loadPaneEffect r s).panel = s.panel := by
  simp [loadPaneEffect]

@[simp] theorem softReset_decoder : s.softReset.dec.state = s.dec.state := by
  unfold State.softReset State.softResetDigest
  dsimp only
  split <;> rfl

@[simp] theorem paintPixel_decoder (job : Job) (o : Nat × Nat) : (s.paintPixel job o).dec.state = s.dec.state := by
  unfold State.paintPixel
  dsimp only
  split <;> simp [State.touch]

@[simp] theorem paint_decoder (job : Job) (offsets : List (Nat × Nat)) :
    (s.paint job offsets).dec.state = s.dec.state :=
  List.foldlRecOn (motive := fun u : State => u.dec.state = s.dec.state) offsets _ rfl
    fun _ hu _ _ => (paintPixel_decoder _ _ _).trans hu

@[simp] theorem finishJob_decoder (job : Job) : (s.finishJob job).dec.state = s.dec.state := by
  unfold State.finishJob
  dsimp only
  split <;> simp

@[simp] theorem noteOutcome_decoder (o : DrawOutcome) (k t : Byte) (q : Option Byte) :
    (s.noteOutcome o k t q).dec.state = s.dec.state := by
  unfold State.noteOutcome
  split
  · simp
  · rfl
  · rfl
  · rfl
  · split <;> rfl

@[simp] theorem bannerRead_decoder (cursor : Nat) : (s.bannerRead cursor).dec.state = s.dec.state := by
  unfold State.bannerRead
  split
  · simp
  · split <;> simp

@[simp] theorem engineRuns_decoder : s.engineRuns.dec.state = s.dec.state := by
  unfold State.engineRuns
  dsimp only
  split
  · simp
  · split <;> simp

@[simp] theorem answerWith_decoder (check : Record → Option Reason) (body : Record → State → List Word) (n : Nat)
    (f : RxFrame) (r : Record) : (answerWith check body n f r s).dec.state = s.dec.state := by
  unfold answerWith
  split <;> simp [State.refuseAsk, State.refuseRecord]

@[simp] theorem answerStatus_decoder (n : Nat) (f : RxFrame) (r : Record) :
    (answerStatus n f r s).dec.state = s.dec.state := by
  unfold answerStatus
  dsimp only
  split <;> simp

@[simp] theorem answerDigest_decoder (n : Nat) (f : RxFrame) (r : Record) :
    (answerDigest n f r s).dec.state = s.dec.state := by
  unfold answerDigest
  split <;> simp [State.refuseAsk, State.refuseRecord]

@[simp] theorem answerOf_decoder (code : Byte) (n : Nat) (f : RxFrame) (r : Record) :
    (answerOf code n f r s).dec.state = s.dec.state ∧ (answerOf code n f r s).rxq = s.rxq ∧
      (answerOf code n f r s).panel = s.panel := by
  rcases answerOf_cases code with e | e | ⟨check, body, e⟩ | e <;> simp [e]

/-! ## What leaves the scan going or not going -/

@[simp] theorem later_scanning (p : PanelState) : p.later.scanning = p.scanning := by cases p <;> rfl

@[simp] theorem requestStart_scanning : s.requestStart.panel.state.scanning = s.panel.state.scanning := by
  unfold State.requestStart
  split
  next h => rw [h]; rfl
  all_goals rfl

@[simp] theorem restartRemembered_scanning :
    s.restartRemembered.panel.state.scanning = s.panel.state.scanning := by
  unfold State.restartRemembered
  split <;> simp

@[simp] theorem abortDoze_scanning : s.abortDoze.panel.state.scanning = s.panel.state.scanning := by
  simp [State.abortDoze]

@[simp] theorem endCheck_scanning (anyLost : Bool) :
    (s.endCheck anyLost).panel.state.scanning = s.panel.state.scanning := by
  unfold State.endCheck
  dsimp only
  split <;> simp

@[simp] theorem checkMade_scanning (lost : List Nat) :
    (s.checkMade lost).panel.state.scanning = s.panel.state.scanning := by
  unfold State.checkMade
  split <;> simp

@[simp] theorem setDisplay_panelState (m : Display) : (s.setDisplay m).panel.state = s.panel.state := by
  unfold State.setDisplay
  split <;> rfl

@[simp] theorem setArea_panelState (m : Area) : (s.setArea m).panel.state = s.panel.state := by
  unfold State.setArea
  split <;> rfl

@[simp] theorem setIdle_panelState (m : Bool) : (s.setIdle m).panel.state = s.panel.state := by
  unfold State.setIdle
  split <;> rfl

@[simp] theorem flowAtAdmission_frames : s.flowAtAdmission.rxq.frames = s.rxq.frames := by
  unfold State.flowAtAdmission
  split <;> rfl

@[simp] theorem admission_scanning (f : RxFrame) :
    (s.admission f).panel.state.scanning = s.panel.state.scanning := by
  unfold State.admission State.admitFrame
  split
  · rfl
  · dsimp only
    split <;> simp

@[simp] theorem keepFrame_scanning (kind flags sequence : Byte) (payload : List Byte) :
    (s.keepFrame kind flags sequence payload).panel.state.scanning = s.panel.state.scanning := by
  unfold State.keepFrame
  dsimp only
  split <;> simp

@[simp] theorem endFrame_scanning (buffer : List Byte) :
    (s.endFrame buffer).panel.state.scanning = s.panel.state.scanning := by
  unfold State.endFrame State.classify
  dsimp only
  (repeat' split) <;> simp

/-! ## What the end of a frame in assembly does to the receive queue -/

theorem admission_frames (f : RxFrame) : ∃ more, (s.admission f).rxq.frames = s.rxq.frames ++ more := by
  unfold State.admission State.admitFrame
  split
  · exact ⟨[], by simp⟩
  · dsimp only
    exact ⟨[f], by split <;> simp⟩

theorem keepFrame_frames (kind flags sequence : Byte) (payload : List Byte) :
    ∃ more, (s.keepFrame kind flags sequence payload).rxq.frames = s.rxq.frames ++ more := by
  unfold State.keepFrame
  dsimp only
  split
  · exact admission_frames _ _
  · exact ⟨[], by simp⟩

theorem classify_frames (kind flags sequence : Byte) (payload : List Byte) :
    ∃ more, (s.classify kind flags sequence payload).rxq.frames = s.rxq.frames ++ more := by
  unfold State.classify
  split
  · exact keepFrame_frames _ _ _ _ _
  · dsimp only
    split
    · exact keepFrame_frames _ _ _ _ _
    · split
      · exact keepFrame_frames _ _ _ _ _
      · exact ⟨[], by simp⟩

/-- The end of a frame in assembly adds nothing to the receive queue but at its tail (R14). -/
theorem endFrame_frames (buffer : List Byte) : ∃ more, (s.endFrame buffer).rxq.frames = s.rxq.frames ++ more := by
  unfold State.endFrame
  dsimp only
  split
  · obtain ⟨more, h⟩ := classify_frames (s.setAssembly .waiting).goodFrame (buffer.getD 0 0) (buffer.getD 1 0)
      (buffer.getD 2 0) ((buffer.drop 6).take (headerLength buffer))
    exact ⟨more, by simpa using h⟩
  · exact ⟨[], by simp⟩

end

/-! ## The walk -/

theorem DecoderSound.of_idle {s : State} (h : s.dec.state = .idle) : DecoderSound s where
  syncWait h' := by rw [h] at h'; cases h'
  cursor c h' := by rw [h] at h'; cases h'
  slotWait c h' := by rw [h] at h'; cases h'

/-- A frame that joins the tail, and a panel that scans on, leave the decoder sound. -/
theorem DecoderSound.joined {s t : State} (h : DecoderSound s) (hd : t.dec.state = s.dec.state)
    (hf : ∃ more, t.rxq.frames = s.rxq.frames ++ more)
    (hp : s.panel.state.scanning = true → t.panel.state.scanning = true) : DecoderSound t := by
  obtain ⟨hsync, hcursor, hslot⟩ := h
  obtain ⟨more, hf⟩ := hf
  refine ⟨fun hw => ?_, fun c hc => ?_, fun c hw => ?_⟩
  · obtain ⟨hne, hscan⟩ := hsync (hd ▸ hw)
    exact ⟨by simp [hf, hne], hp hscan⟩
  · obtain ⟨f, rest, hfr, hc4, hlt⟩ := hcursor c (hd ▸ hc)
    exact ⟨f, rest ++ more, by simp [hf, hfr], hc4, hlt⟩
  · have hw' := hd ▸ hw
    obtain ⟨f, rest, hfr, -⟩ := hcursor c (by rw [hw']; rfl)
    obtain ⟨f', r, hat, hrest⟩ := hslot c hw'
    refine ⟨f', r, ?_, hrest⟩
    rw [← hat, State.atCursor, State.atCursor, hw, hw', hf, hfr, List.cons_append]
    rfl

theorem DecoderSound.congr {s t : State} (h : DecoderSound s) (hd : t.dec.state = s.dec.state := by simp)
    (hf : t.rxq.frames = s.rxq.frames := by simp)
    (hp : s.panel.state.scanning = true → t.panel.state.scanning = true := by simp) : DecoderSound t :=
  h.joined hd ⟨[], by simpa using hf⟩ hp

theorem DecoderSound.finishFrame (s : State) : DecoderSound s.finishFrame :=
  .of_idle (by simp [(finishFrame_rxq s).2.2])

theorem DecoderSound.walking {s : State} {c : Nat} {f : RxFrame} {rest : List RxFrame} (hf : s.rxq.frames = f :: rest)
    (hc : c % 4 = 0) (hlt : c < f.payload.length) : DecoderSound (s.setDecoder (.walking c)) where
  syncWait h := by cases h
  cursor c' h := by
    obtain rfl : c = c' := by simpa [State.setDecoder, DecoderState.cursor?] using h
    exact ⟨f, rest, hf, hc, hlt⟩
  slotWait c' h := by cases h

/-- A walk from a word offset of a frame in hand ends with the decoder IDLE or inside the payload (R25). -/
theorem DecoderSound.walkFrom {s : State} {c : Nat} (hf : s.rxq.frames ≠ []) (hc : c % 4 = 0) :
    DecoderSound (s.walkFrom c) := by
  rcases walkFrom_cases s c with ⟨he, -⟩ | ⟨f, rest, hfr, ⟨-, h⟩ | ⟨hlt, h⟩⟩
  · exact absurd he hf
  · exact h ▸ finishFrame s
  · exact h ▸ walking hfr hc hlt

theorem DecoderSound.advance {s : State} (h : DecoderSound s) (r : Record) : DecoderSound (s.advance r) := by
  cases hc : s.dec.state.cursor? with
  | none => rwa [State.advance, hc]
  | some c =>
    obtain ⟨f, rest, hf, hc4, -⟩ := h.cursor c hc
    rw [advance_of_cursor hc]
    exact walkFrom (by simp [hf]) (by rw [Record.extent]; omega)

/-- The release of a SYNC wait needs no panel that scans (R24). -/
theorem DecoderSound.releaseSync {s t : State} (h : DecoderSound s) (hd : t.dec.state = s.dec.state := by simp)
    (hf : t.rxq.frames = s.rxq.frames := by simp) : DecoderSound t.releaseSync := by
  cases hs : s.dec.state with
  | syncWait =>
    rw [State.releaseSync, hd, hs]
    exact walkFrom (hf ▸ (h.syncWait hs).1) rfl
  | idle | walking c | slotWait c =>
    have ht : t.releaseSync = t := by rw [State.releaseSync, hd, hs]
    rw [ht]
    have hn : s.dec.state ≠ .syncWait := by simp [hs]
    refine ⟨fun hw => absurd (hd ▸ hw) hn, ?_, ?_⟩
    · rw [hd, hf]; exact h.cursor
    · rw [State.atCursor, hd, hf]; exact h.slotWait

/-! ## The panel -/

theorem DecoderSound.stopPanel {s : State} (h : DecoderSound s) : DecoderSound s.stopPanel := h.releaseSync

theorem DecoderSound.requestStop {s : State} (h : DecoderSound s) : DecoderSound s.requestStop := by
  unfold State.requestStop
  split
  case h_4 => exact h.stopPanel
  all_goals exact h.congr (hp := id)

theorem DecoderSound.reachRunning {s : State} (h : DecoderSound s) : DecoderSound s.reachRunning := by
  have h1 : DecoderSound (State.setFlag { s with panel := { s.panel with state := .running } } .panelReady) :=
    h.congr (hp := fun _ => rfl)
  unfold State.reachRunning
  dsimp only
  split
  · exact h1.stopPanel
  · exact h1

theorem DecoderSound.panelAtFrameEnd {s : State} (h : DecoderSound s) : DecoderSound s.panelAtFrameEnd := by
  unfold State.panelAtFrameEnd
  split
  · split
    · exact h.congr (hp := fun _ => rfl)
    · exact h.reachRunning
  all_goals exact h.congr (hp := id)

theorem DecoderSound.reachOff {s : State} (h : DecoderSound s) (hoff : s.panel.state.scanning = false) :
    DecoderSound s.reachOff :=
  h.congr (hp := by simp [hoff])

/-! ## The taking of records -/

theorem DecoderSound.refuseRecord {s : State} (h : DecoderSound s) (f : RxFrame) (r : Record) (e : Reason) :
    DecoderSound (s.refuseRecord f r e) := h.congr (hd := by simp [State.refuseRecord])

theorem DecoderSound.takeControl {s : State} (h : DecoderSound s) {code : Byte} {check : Record → Option Reason}
    {effect : Record → State → State} (he : ∀ r, DecoderSound (effect r s)) :
    DecoderSound (takeControl code check effect s) :=
  takeControl_keeps h (fun f r e _ _ => (h.refuseRecord f r e).advance r) (fun _ r _ _ _ _ => (he r).advance r)

theorem DecoderSound.takePanel {s : State} (h : DecoderSound s) {a : PanelAction} {effect : Record → State → State}
    (he : ∀ r, DecoderSound (effect r s)) : DecoderSound (takePanel a effect s) :=
  takePanel_keeps h (h.takeControl he)

theorem DecoderSound.takeDraw {s : State} (h : DecoderSound s) (kind : DrawKind) : DecoderSound (takeDraw kind s) :=
  takeDraw_keeps h (fun f r e => (h.refuseRecord f r e).advance r) (fun _ _ _ _ => h.congr)
    (fun _ r _ => advance h.congr r)

/-- A walk that stops at an ASK record of a CTRL frame (R34). -/
theorem DecoderSound.waitForSlot {s : State} (h : DecoderSound s) {f : RxFrame} {r : Record} {c : Nat}
    (hr : s.record? = some (f, r)) (hd : s.dec.state = .walking c) (hf : f.kind = .ctrl)
    (hk : isAskCode r.kind = true) : DecoderSound (s.setDecoder (.slotWait c)) where
  syncWait h' := by cases h'
  cursor c' h' := h.cursor c' (by rw [hd]; exact h')
  slotWait c' h' := by
    obtain ⟨c₁, rest, hd₁, hfr, hread⟩ := record?_some.mp hr
    obtain rfl : c = c₁ := by simpa [hd] using hd₁
    refine ⟨f, r, ?_, hf, hk⟩
    simp [State.atCursor, State.setDecoder, DecoderState.cursor?, hfr, hread]

theorem DecoderSound.takeAsk {s : State} (h : DecoderSound s) {code : Byte}
    {answer : Nat → RxFrame → Record → State → State} (hcode : isAskCode code = true)
    (ha : ∀ {u}, DecoderSound u → ∀ n f r, DecoderSound (answer n f r u)) : DecoderSound (takeAsk code answer s) := by
  rcases takeAsk_cases code answer s with e | ⟨f, r, hr, hk, ⟨-, e⟩ | ⟨-, n, -, e⟩ | ⟨hf, -, c, hd, e⟩⟩ <;> rw [e]
  · exact h
  · exact (h.refuseRecord f r _).advance r
  · exact advance (ha h.congr n f r) r
  · exact h.waitForSlot hr hd hf (hk ▸ hcode)

theorem DecoderSound.answerWith {s : State} (h : DecoderSound s) (check : Record → Option Reason)
    (body : Record → State → List Word) (n : Nat) (f : RxFrame) (r : Record) :
    DecoderSound (answerWith check body n f r s) := h.congr

/-! ## The commands -/

theorem DecoderSound.enterEntering {s : State} (h : DecoderSound s) : DecoderSound s.enterEntering :=
  requestStop h.congr

theorem DecoderSound.enterDoze {s : State} (h : DecoderSound s) : DecoderSound s.enterDoze := requestStop h.congr

theorem DecoderSound.frameTake {s t : State} (h : DecoderSound s) (hx : execFrameTake s = .next t) :
    DecoderSound t := by
  refine onEvent_keeps hx h fun _ hdue => ?_
  have hne := ((takeDue_iff s).mp hdue).2.1
  split
  next hsync =>
    simp only [Bool.and_eq_true] at hsync
    exact ⟨fun _ => ⟨hne, hsync.2⟩, fun _ h' => (nomatch h'), fun _ h' => (nomatch h')⟩
  next => exact walkFrom hne rfl

theorem DecoderSound.slotGranted {s t : State} (h : DecoderSound s) (hx : execSlotGranted s = .next t) :
    DecoderSound t := by
  refine live_keeps hx h fun _ => ?_
  split
  next c hd =>
    split
    next n f r _ _ =>
      obtain ⟨f', rest, hf, hc4, hlt⟩ := h.cursor c (by rw [hd]; rfl)
      exact advance (walking hf hc4 hlt).congr r
    next => exact h
  all_goals exact h

theorem DecoderSound.dataSymbol {s t : State} (h : DecoderSound s) {b : Byte} (hx : execDataSymbol b s = .next t) :
    DecoderSound t := by
  refine onEvent_keeps hx h fun _ _ => ?_
  split
  · exact h
  next stored _ =>
    dsimp only
    split
    · exact h.congr
    · split
      · exact h.congr
      · split
        · exact h.congr
        · exact h.joined (by simp) (endFrame_frames _ _) (by simp)

theorem DecoderSound.setOutage {s t : State} (h : DecoderSound s) (hx : execSetOutage s = .next t) :
    DecoderSound t := by
  refine live_keeps hx h fun _ => h.takeControl fun r => ?_
  have hlate : ∀ {u : State}, DecoderSound u → DecoderSound (if dozeExpired u then u.enterEntering else u) := by
    intro u hu
    split
    · exact hu.enterEntering
    · exact hu
  refine hlate ?_
  split <;> exact h.congr

theorem DecoderSound.retentionPassPaneDone {s t : State} (h : DecoderSound s)
    (hx : execRetentionPassPaneDone s = .next t) : DecoderSound t := by
  refine live_keeps hx h fun _ => ?_
  split
  · dsimp only
    split
    · exact h.congr
    · exact enterDoze h.congr
  all_goals exact h

theorem DecoderSound.retentionCheckPaneDone {s t : State} (h : DecoderSound s)
    (hx : execRetentionCheckPaneDone s = .next t) : DecoderSound t := by
  refine onEvent_keeps hx h fun _ _ => ?_
  split
  · dsimp only
    (repeat' split) <;> exact h.congr
  all_goals exact h

theorem DecoderSound.retentionClearPaneDone {s t : State} (h : DecoderSound s)
    (hx : execRetentionClearPaneDone s = .next t) : DecoderSound t := by
  refine onEvent_keeps hx h fun _ _ => ?_
  split
  · dsimp only
    split <;> exact h.congr
  · exact h

theorem DecoderSound.bannerRecordDone {s t : State} (h : DecoderSound s) (hx : execBannerRecordDone s = .next t) :
    DecoderSound t := by
  refine onEvent_keeps hx h fun _ _ => ?_
  split
  · dsimp only
    (repeat' split) <;> exact h.congr
  · exact h

theorem DecoderSound.keyScan {s t : State} (h : DecoderSound s) {raw : BitVec 128} (hx : execKeyScan raw s = .next t) :
    DecoderSound t := by
  refine onEvent_keeps hx h fun _ _ => ?_
  dsimp only
  split
  · exact h.congr
  · exact List.foldlRecOn _ _ (List.foldlRecOn _ _ h.congr fun _ hu _ _ => hu.congr) fun _ hu _ _ => hu.congr

theorem DecoderSound.exec {c : Instr} {s t : State} (h : DecoderSound s) (hx : exec c s = .next t) :
    DecoderSound t := by
  cases c with
  | resetAssert => injection hx with hx; subst hx; exact .of_idle rfl
  | resetRelease | presenceContactChange =>
    injection hx with hx; subst hx; split <;> exact h.congr
  | clearPassEnd | presenceClosed | presenceOpen | startSymbol | silenceTimeout | bannerDelayExpiry | flowSymbolSend
  | keysFrameStart | noticeFrameStart =>
    rw [Machine.exec] at hx
    exact onEvent_keeps hx h fun _ _ => h.congr
  | laneLockGained | upstreamFrameEnd =>
    rw [Machine.exec] at hx
    exact live_keeps hx h fun _ => h.congr
  | laneLockLost =>
    rw [Machine.exec] at hx
    refine onEvent_keeps hx h fun _ _ => ?_
    dsimp only
    split <;> exact h.congr
  | dataSymbol b => exact h.dataSymbol hx
  | frameTake => exact h.frameTake hx
  | slotGranted => exact h.slotGranted hx
  | unknownRecord =>
    rw [Machine.exec] at hx
    refine live_keeps hx h fun _ => ?_
    split
    · split
      · exact h
      · exact advance h.congr _
    · exact h
  | brokenRecord =>
    rw [Machine.exec] at hx
    refine onEvent_keeps hx h fun _ _ => ?_
    split
    · exact .finishFrame _
    all_goals exact h
  | fill | clear | glyph | planes | move | keymove =>
    rw [Machine.exec] at hx
    exact live_keeps hx h fun _ => h.takeDraw _
  | drawComplete =>
    rw [Machine.exec] at hx
    refine onEvent_keeps hx h fun _ _ => ?_
    split
    · exact advance h.congr _
    · exact h
  | loadPalette | loadShade =>
    rw [Machine.exec] at hx
    exact live_keeps hx h fun _ => h.takeControl fun _ => h.congr rfl rfl id
  | loadPen | loadPane | loadKeymap | loadBanner | setBanner | backlight | lamps | setKeys
  | setNotice | clearCounts | reset =>
    rw [Machine.exec] at hx
    exact live_keeps hx h fun _ => h.takeControl fun _ => h.congr
  | setView =>
    rw [Machine.exec] at hx
    refine live_keeps hx h fun _ => h.takeControl fun _ => ?_
    unfold setViewEffect
    split <;> exact h.congr
  | setLink =>
    rw [Machine.exec] at hx
    refine live_keeps hx h fun _ => h.takeControl fun _ => ?_
    dsimp only
    split <;> exact h.congr
  | setOutage => exact h.setOutage hx
  | doze =>
    rw [Machine.exec] at hx
    refine live_keeps hx h fun _ => h.takeControl fun _ => ?_
    split
    · exact h.enterEntering
    · exact h
  | panelStart | panelFull | panelPartial | panelIdleOn | panelIdleOff | panelShow | panelBlank =>
    rw [Machine.exec] at hx
    exact live_keeps hx h fun _ => h.takePanel fun _ => h.congr
  | panelStop =>
    rw [Machine.exec] at hx
    exact live_keeps hx h fun _ => h.takePanel fun _ => h.requestStop
  | askCell | askTable | askId =>
    rw [Machine.exec] at hx
    exact live_keeps hx h fun _ => h.takeAsk (by decide) fun hu _ _ _ => hu.answerWith _ _ _ _ _
  | askStatus | askDigest =>
    rw [Machine.exec] at hx
    exact live_keeps hx h fun _ => h.takeAsk (by decide) fun hu _ _ _ => hu.congr
  | digestRunEnd =>
    rw [Machine.exec] at hx
    refine live_keeps hx h fun _ => ?_
    split
    · exact h.congr
    · exact h
  | retentionPassStart =>
    rw [Machine.exec] at hx
    refine onEvent_keeps hx h fun _ _ => ?_
    split
    · exact h.congr
    · exact h.enterDoze
  | retentionPassPaneDone => exact h.retentionPassPaneDone hx
  | oscillatorWaitEnd =>
    rw [Machine.exec] at hx
    refine onEvent_keeps hx h fun _ _ => ?_
    dsimp only
    split <;> exact h.congr
  | retentionCheckPaneDone => exact h.retentionCheckPaneDone hx
  | retentionClearPaneDone => exact h.retentionClearPaneDone hx
  | dozeTimerExpiry =>
    rw [Machine.exec] at hx
    exact onEvent_keeps hx h fun _ _ => h.enterEntering
  | bannerGrant =>
    rw [Machine.exec] at hx
    refine onEvent_keeps hx h fun _ _ => ?_
    dsimp only
    split <;> exact h.congr
  | bannerRecordDone => exact h.bannerRecordDone hx
  | powerUpEnd =>
    rw [Machine.exec] at hx
    exact onEvent_keeps hx h fun _ _ => h.congr (hp := fun _ => rfl)
  | powerDownEnd =>
    rw [Machine.exec] at hx
    refine onEvent_keeps hx h fun _ hdue => ?_
    obtain ⟨n, hstop, -⟩ := (powerDownDue_iff s).mp hdue
    exact h.reachOff (by rw [hstop]; rfl)
  | frameEnd =>
    rw [Machine.exec] at hx
    refine onEvent_keeps hx h fun _ _ => ?_
    have h1 : DecoderSound { s with scan := s.scan.frameEnd, panel := s.panel.latchModes } := h.congr (hp := id)
    exact h1.panelAtFrameEnd.releaseSync
  | keyScan raw => exact h.keyScan hx
  | replyFrameStart =>
    rw [Machine.exec] at hx
    refine onEvent_keeps hx h fun _ _ => ?_
    (repeat' split) <;> exact h.congr
  | recomputeStep =>
    rw [Machine.exec] at hx
    refine live_keeps hx h fun _ => ?_
    split <;> exact h.congr
  | dozePixelLoss x y v =>
    rw [Machine.exec, execDozePixelLoss] at hx
    split at hx
    · exact onEvent_keeps hx h fun _ _ => h.congr
    · cases hx

/-- Settles O54. -/
theorem stepsKeepDecoderSound : Obligations.StepsKeepDecoderSound := fun _ _ h hx =>
  step_keeps (fun _ _ h => h.congr)
    (fun _ h => idle_keeps (fun _ _ h => h.congr) (fun _ h => h.congr (hp := by simp [State.timersRun])) h)
    (fun _ _ _ h hx => h.exec hx) h hx

end Sys2Proof.Machine

namespace Sys2Proof.Machine

set_option Elab.async false

open Sys2Proof.Statements

/-! # The frame decoder's walk (R22 to R26, R28, R34) -/

/-! ## From an offset of the payload -/

theorem walkFrom_inside {s : State} {f : RxFrame} {rest : List RxFrame} {c : Nat} (hf : s.rxq.frames = f :: rest)
    (hc : c < f.payload.length) : s.walkFrom c = s.setDecoder (.walking c) := by
  simp [State.walkFrom, hf, hc]

theorem walkFrom_end {s : State} {f : RxFrame} {rest : List RxFrame} {c : Nat} (hf : s.rxq.frames = f :: rest)
    (hc : f.payload.length ≤ c) : s.walkFrom c = s.finishFrame := by
  simp [State.walkFrom, hf, hc]

theorem releaseSync_eq (s : State) : s.releaseSync = if s.dec.state = .syncWait then s.walkFrom 0 else s := by
  unfold State.releaseSync
  cases s.dec.state <;> simp

/-- Past a record, inside the payload (R25). -/
theorem advance_inside {s : State} {f : RxFrame} {rest : List RxFrame} {r : Record} {c : Nat}
    (hd : s.dec.state.cursor? = some c) (hf : s.rxq.frames = f :: rest)
    (hc : c + 4 + 4 * r.body.length < f.payload.length) :
    s.advance r = s.setDecoder (.walking (c + 4 + 4 * r.body.length)) := by
  rw [advance_of_cursor hd, Record.extent, ← Nat.add_assoc, walkFrom_inside hf hc]

/-- Past the last record of the payload (R25). -/
theorem advance_end {s : State} {f : RxFrame} {rest : List RxFrame} {r : Record} {c : Nat}
    (hd : s.dec.state.cursor? = some c) (hf : s.rxq.frames = f :: rest)
    (hc : f.payload.length ≤ c + 4 + 4 * r.body.length) : s.advance r = s.finishFrame := by
  rw [advance_of_cursor hd, Record.extent, ← Nat.add_assoc, walkFrom_end hf hc]

/-- What the end of a frame leaves of the whole state (R15, R16, R22). -/
theorem finishFrame_eq {s : State} {f : RxFrame} {rest : List RxFrame} (hf : s.rxq.frames = f :: rest) :
    s.finishFrame =
      if s.rxq.flow = .hold ∧ (rest.map (fun g => g.payload.length + 8)).sum ≤ 2048 ∧ rest.length ≤ 4 then
        { s with
          dec := { s.dec with state := .idle }
          rxq := { frames := rest, flow := .go }
          up := { s.up with flowPending := true } }
      else { s with dec := { s.dec with state := .idle }, rxq := { s.rxq with frames := rest } } := by
  have hoccupancy : occupancy rest = (rest.map (fun g => g.payload.length + 8)).sum := rfl
  rw [← hoccupancy]
  unfold State.finishFrame State.flowAtRemoval State.removeFrame
  simp only [hf, List.tail_cons]
  split <;> rfl

/-! ## The taking of a frame -/

theorem oldestSyncs_cons (f : RxFrame) (rest : List RxFrame) : oldestSyncs (f :: rest) = f.flags.getLsbD 0 := rfl

theorem walkFrom_zero {s : State} {f : RxFrame} {rest : List RxFrame} (hf : s.rxq.frames = f :: rest)
    (hp : f.payload ≠ []) : s.walkFrom 0 = s.setDecoder (.walking 0) :=
  walkFrom_inside hf (List.length_pos_of_ne_nil hp)

theorem walkFrom_zero_empty {s : State} {f : RxFrame} {rest : List RxFrame} (hf : s.rxq.frames = f :: rest)
    (hp : f.payload = []) : s.walkFrom 0 = s.finishFrame :=
  walkFrom_end hf (by simp [hp])

theorem exec_frameTake {s : State} {f : RxFrame} {rest : List RxFrame} (hr : s.resetLine = false)
    (hf : s.rxq.frames = f :: rest) (hdue : takeDue s = true) :
    exec .frameTake s =
      .next (if f.flags.getLsbD 0 && s.panel.state.scanning then s.setDecoder .syncWait else s.walkFrom 0) := by
  rw [exec, execFrameTake, onEvent_occurs hr hdue, hf, oldestSyncs_cons]

/-- Settles O10. -/
theorem frameTakeAndSyncWait : Obligations.FrameTakeAndSyncWait := by
  refine ⟨fun s f rest hr hd hf hdev hban hclr => ?_, fun s f rest hd hf => ?_, fun s hd => ?_⟩
  · have hdue : takeDue s = true := (takeDue_iff s).mpr ⟨hd, by simp [hf], hdev, hban, hclr⟩
    rw [exec_frameTake hr hf hdue]
    have hno : f.flags.getLsbD 0 = false ∨ s.panel.state.scanning = false →
        ¬ (f.flags.getLsbD 0 && s.panel.state.scanning) = true := by
      rw [← Bool.and_eq_false_iff]
      simp
    refine ⟨fun hsync hscan => ?_, fun hgo hp => ?_, fun hgo hp => ?_⟩
    · rw [hsync, hscan]; rfl
    · rw [if_neg (hno hgo), walkFrom_zero hf hp]; rfl
    · rw [if_neg (hno hgo), walkFrom_zero_empty hf hp]
  · rw [releaseSync_eq, if_pos hd]
    exact ⟨fun hp => by rw [walkFrom_zero hf hp]; rfl, fun hp => walkFrom_zero_empty hf hp⟩
  · rw [releaseSync_eq, if_neg hd]

/-! ## Unknown and broken records -/

/-- One advance of a counter, as the statements write it (R177). -/
theorem count_one (s : State) (c : Counter) : s.count c = withCounter s c (min 65535 (s.counter c + 1)) := rfl

theorem isDrawCode_iff (code : Byte) : isDrawCode code = true ↔ 0x10 ≤ code.toNat ∧ code.toNat ≤ 0x15 := by
  unfold isDrawCode DrawKind.ofCode
  split <;> simp_all
  omega

theorem isAskCode_iff (code : Byte) : isAskCode code = true ↔ 0x38 ≤ code.toNat ∧ code.toNat ≤ 0x3C := by
  simp [isAskCode]

theorem isControlCode_iff (code : Byte) : isControlCode code = true ↔
    (0x20 ≤ code.toNat ∧ code.toNat ≤ 0x31) ∨ (0x38 ≤ code.toNat ∧ code.toNat ≤ 0x3C) := by
  simp [isControlCode, isAskCode_iff]

/-- Settles O11. -/
theorem unknownRecordIsSkipped : Obligations.UnknownRecordIsSkipped := by
  intro s f r hat hdraw hctrl hask
  obtain ⟨hr, hrec⟩ := atRecord_iff.mp hat
  have hkind : ¬ (isDrawCode r.kind = true ∨ isControlCode r.kind = true) := by
    rw [isDrawCode_iff, isControlCode_iff]
    tauto
  rw [exec, execUnknownRecord, live_released hr]
  simp only [hrec, if_neg hkind, count_one]

/-- A body that runs past the payload's end (R26). -/
theorem readRecord_broken {kind length tag par : Byte} {left : List Byte} (h : left.length < 4 * length.toNat) :
    readRecord (kind :: length :: tag :: par :: left) = some .broken := by
  rw [readRecord, if_pos h]

/-- Settles O12. -/
theorem walkAdvancesOrBreaks : Obligations.WalkAdvancesOrBreaks := by
  refine ⟨fun s f rest r c hd hf => ⟨fun hc => ?_, fun hc => ⟨advance_end hd hf hc, finishFrame_eq hf⟩⟩,
    fun s f rest c kind length tag par left hr hd hf hbytes hshort => ?_⟩
  · rw [advance_inside hd hf hc]; rfl
  · have hbroken : s.atCursor = some (f, .broken) := by
      rw [atCursor_walking hd hf, hbytes, readRecord_broken hshort]; rfl
    rw [exec, execBrokenRecord, onEvent_occurs hr (by simp [State.isWalking, hd])]
    simp only [hbroken, count_one]

/-! ## The wait for a reply slot -/

/-- Where the walk past a record leaves the decoder (R25). -/
theorem advance_decoder {s : State} {f : RxFrame} {rest : List RxFrame} {c : Nat} (r : Record)
    (hd : s.dec.state = .walking c) (hf : s.rxq.frames = f :: rest) :
    (s.advance r).dec.state =
      if c + 4 + 4 * r.body.length < f.payload.length then .walking (c + 4 + 4 * r.body.length) else .idle := by
  have hcursor : s.dec.state.cursor? = some c := by rw [hd]; rfl
  split
  next hc => rw [advance_inside hcursor hf hc]; rfl
  next hc => rw [advance_end hcursor hf (by omega), (finishFrame_rxq s).2.2]

/-- Settles O24: a record that waits for a slot is dealt with, once one is FREE, as it would be in WALKING. -/
theorem slotWaitAndGrant : Obligations.SlotWaitAndGrant := by
  refine ⟨fun s f r hat hf h1 h2 hbusy => ?_, fun s u f r c n hr hd hu hat hf h1 h2 hn hfree => ?_⟩
  · obtain ⟨-, c, rest, hd, -, -⟩ := id hat
    refine ⟨c, hd, ?_⟩
    rw [exec_ask h1 h2, live_released hat.1]
    simp only [takeAsk, recordOf?_of_atRecord hat, hf, freeSlot_none hbusy, hd]
    rfl
  · obtain ⟨hru, c', rest, hdu, hfr, hread⟩ := id hat
    obtain rfl : c = c' := by simpa [hu] using hdu
    have hslot : s.freeSlot.isSome = true := (freeSlot_isSome_iff s).mpr ⟨n, hn, hfree⟩
    obtain ⟨m, hm⟩ := Option.isSome_iff_exists.mp hslot
    have hcursor : s.atCursor = some (f, .whole r) := by
      have hfs : s.rxq.frames = f :: rest := by simpa [hu] using hfr
      simp [State.atCursor, hd, hfs, DecoderState.cursor?, hread]
    have hum : u.freeSlot = some m := by rw [← hm, hu]; rfl
    refine ⟨(answerOf r.kind m f r (u.setSlot m (.reserved r.kind r.tag))).advance r, ?_, ?_, ?_⟩
    · rw [exec, execSlotGranted, live_released hr]
      simp only [hd, hm, hcursor, hu]
      rfl
    · rw [exec_ask h1 h2, live_released hru, takeAsk_granted (recordOf?_of_atRecord hat) hf hum]
    · exact advance_decoder r (by simpa using hdu) (by simpa using hfr)

end Sys2Proof.Machine

namespace Sys2Proof.Machine

set_option Elab.async false

open Sys2Proof.Statements

/-! # Refusals, counters and flags (R30, R31, R171, R173, R177) -/

/-- A flag set makes a NOTICE pending where it is newly set under its enable bit in UP or QUIET (R171, R173). -/
theorem setFlag_noticePending (s : State) (f : Flag) :
    (s.setFlag f).status.noticePending = true ↔ s.status.noticePending = true ∨
      (s.flag f = false ∧ s.status.noticeMask.getLsbD f.bit = true ∧
        (s.link.state = .up ∨ s.link.state = .quiet)) := by
  simp [State.setFlag, ← alive_iff, and_assoc]

/-- Settles O46. -/
theorem refusalsCountersAndFlags : Obligations.RefusalsCountersAndFlags := by
  refine ⟨fun s kind tag sequence reason => rfl, fun s c k => ⟨rfl, ?_, fun d hd => ?_⟩,
    fun s f => ⟨rfl, ?_, fun g hg => ?_, setFlag_noticePending s f⟩⟩
  · rw [counter_count, if_pos rfl]
  · rw [counter_count, if_neg hd.symm]
  · rw [setFlag_flag]; simp
  · rw [setFlag_flag]; simp [hg.symm]

end Sys2Proof.Machine

namespace Sys2Proof.Machine

set_option Elab.async false

open Sys2Proof.Statements

/-! # The checks of the control records (R29, R30) -/

/-- Why a control record of a CTRL frame is refused, if it is: its length, or else a field. -/
def controlFailure (r : Record) : Option Reason :=
  firstFailure [(lengthMatches r, .length), (fieldsInRange r, .range)]

theorem controlFailure_of_accepted {s : State} {f : RxFrame} {r : Record} {code : Byte} (h : Accepted s f r code) :
    controlFailure r = none := by
  obtain ⟨-, -, -, hl, hf⟩ := h
  simp [controlFailure, firstFailure, hl, hf]

/-! ## From a kind's own checks to the table of lengths and ranges -/

/-- A list of range checks fails where one of them does. -/
theorem firstFailure_ranges (ranges : List Bool) :
    firstFailure (ranges.map (fun b => (b, .range))) = if ranges.all id then none else some .range := by
  induction ranges with
  | nil => rfl
  | cons b ranges ih => cases b <;> simp [firstFailure, ih]

/-- Checks of the length and then of fields are those of the table, where they agree with it on the length and, for a
record of that length, on the fields. -/
theorem firstFailure_eq_controlFailure {r : Record} {l : Bool} {ranges : List Bool} (hl : lengthMatches r = l)
    (hf : l = true → (fieldsInRange r = true ↔ ranges.all id = true)) :
    firstFailure ((l, .length) :: ranges.map (fun b => (b, .range))) = controlFailure r := by
  subst hl
  rw [controlFailure]
  cases h : lengthMatches r with
  | false => rfl
  | true =>
    rw [firstFailure, if_pos rfl, firstFailure_ranges, firstFailure, if_pos rfl]
    have hf' : fieldsInRange r = ranges.all id := Bool.eq_iff_iff.mpr (hf h)
    rw [hf']
    cases ranges.all id <;> rfl

theorem byteOf_eq_one_iff {r : Record} {w b : Nat} : byteOf (wordAt r.body w) b = 1#8 ↔ byteAt r w b = 1 := by
  rw [byteAt, BitVec.toNat_eq]
  rfl

theorem keyActionOf_isSome (w : Word) : (keyActionOf w).isSome = true ↔
    (byteOf w 1).toNat ≤ 3 ∧ ((byteOf w 1).toNat ≠ 2 ∨ (byteOf w 2).toNat ≤ 6) := by
  unfold keyActionOf
  split
  case h_3 h => split <;> simp_all
  all_goals simp_all <;> omega

theorem panelActionOfCode_isSome (b : Byte) : (PanelAction.ofCode b).isSome = true ↔ b.toNat ≤ 7 := by
  unfold PanelAction.ofCode
  split <;> simp_all
  omega

theorem panelActionOfCode_eq_partial (b : Byte) : PanelAction.ofCode b = some .partialBand ↔ b.toNat = 3 := by
  unfold PanelAction.ofCode
  split <;> simp_all

theorem panelActionOf_of_body {r : Record} (h : r.body ≠ []) :
    panelActionOf r = PanelAction.ofCode (byteOf (wordAt r.body 0) 0) := by
  cases hb : r.body with
  | nil => exact absurd hb h
  | cons w ws => simp [panelActionOf, hb, wordAt]

/-! ## Bodies as rows of words -/

/-- A body after word 0, word by word. -/
theorem tail_eq_map_wordAt (body : List Word) :
    body.tail = (List.range (body.length - 1)).map (fun k => wordAt body (1 + k)) := by
  refine List.ext_getElem (by simp) fun k h1 h2 => ?_
  simp only [List.length_map, List.length_range] at h2
  have hk : k + 1 < body.length := by omega
  simp [wordAt, List.getD_eq_getElem?_getD, hk, Nat.add_comm]

theorem palettePairs_eq_map (l : List Word) (n : Nat) (h : l.length = 2 * n) :
    palettePairs l = (List.range n).map (fun k => (wordAt l (2 * k), wordAt l (2 * k + 1))) := by
  induction n generalizing l with
  | zero =>
    obtain rfl : l = [] := List.eq_nil_of_length_eq_zero h
    rfl
  | succ n ih =>
    match l, h with
    | a :: b :: rest, h =>
      rw [palettePairs, ih rest (by simp at h; omega), List.range_succ_eq_map]
      simp [wordAt, Nat.mul_add]

/-- The entries of a LOAD_PALETTE body of the right length. -/
theorem palettePairs_tail {r : Record} {n : Nat} (h : r.body.length = 1 + 2 * n) :
    palettePairs r.body.tail =
      (List.range n).map (fun k => (wordAt r.body (1 + 2 * k), wordAt r.body (2 + 2 * k))) := by
  cases hb : r.body with
  | nil => rw [hb] at h; simp at h; omega
  | cons w ws =>
    rw [hb] at h
    rw [List.tail_cons, palettePairs_eq_map ws n (by simp at h; omega)]
    refine List.map_congr_left fun k _ => ?_
    rw [show 1 + 2 * k = 2 * k + 1 by omega, show 2 + 2 * k = 2 * k + 1 + 1 by omega]
    rfl

/-! ## Kind by kind -/

section

variable {r : Record}

theorem loadPenCheck_eq (hk : r.kind = 0x20#8) : loadPenCheck r = controlFailure r := by
  refine firstFailure_eq_controlFailure
    (ranges := [decide (byteAt r 0 0 ≤ 31) && decide (byteAt r 0 3 ≤ 1) &&
      (Alu.ofCode (byteOf (wordAt r.body 1) 0)).isSome && (BitOrder.ofCode (byteOf (wordAt r.body 1) 1)).isSome])
    (by simp only [lengthMatches, hk]; rfl) fun _ => ?_
  have halu : (Alu.ofCode (byteOf (wordAt r.body 1) 0)).isSome = true ↔ byteAt r 1 0 ≤ 3 := aluOfCode_isSome _
  have horder : (BitOrder.ofCode (byteOf (wordAt r.body 1) 1)).isSome = true ↔ byteAt r 1 1 ≤ 1 :=
    bitOrderOfCode_isSome _
  simp [fieldsInRange, hk, halu, horder]

theorem loadPaneCheck_eq (hk : r.kind = 0x21#8) : loadPaneCheck r = controlFailure r := by
  refine firstFailure_eq_controlFailure
    (ranges := [decide (byteAt r 0 0 ≤ 15) && decide (byteAt r 0 1 ≤ 1) &&
        !(decide (byteAt r 0 0 = 0) && decide (byteAt r 0 1 = 0)),
      decide (byteAt r 0 1 = 0) || (decide (byteAt r 0 2 ≤ 1) && decide (byteAt r 0 3 ≤ 3)),
      decide (byteAt r 0 1 = 0) || decide (byteAt r 0 0 = 0) ||
        rectangleFits (halfAt r 1 0) (halfAt r 1 1) (halfAt r 2 0) (halfAt r 2 1)])
    (by simp only [lengthMatches, hk]; rfl) fun _ => ?_
  simp only [fieldsInRange, hk, BitVec.reduceToNat, rectangleFits, rectangleInStore, List.all_cons, List.all_nil, id,
    Bool.and_eq_true, Bool.or_eq_true, Bool.not_eq_true', Bool.and_eq_false_iff, decide_eq_true_eq,
    decide_eq_false_iff_not, and_true]
  constructor <;> omega

theorem loadPaletteCheck_eq (hk : r.kind = 0x22#8) : loadPaletteCheck r = controlFailure r := by
  refine firstFailure_eq_controlFailure
    (ranges := [decide (byteAt r 0 0 + byteAt r 0 1 ≤ 256) &&
      (palettePairs r.body.tail).all (fun w => isBit (byteOf w.2 2))])
    (by simp only [lengthMatches, hk]; rfl) fun hl => ?_
  have hlen : r.body.length = 1 + 2 * byteAt r 0 1 := by
    simp only [Bool.and_eq_true, decide_eq_true_eq] at hl
    exact hl.2
  have hbit : ∀ k, isBit (byteOf (wordAt r.body (2 + 2 * k)) 2) = decide (byteAt r (2 + 2 * k) 2 ≤ 1) := fun _ => rfl
  simp [palettePairs_tail hlen, fieldsInRange, hk, hbit]

theorem loadShadeCheck_eq (hk : r.kind = 0x23#8) : loadShadeCheck r = controlFailure r :=
  firstFailure_eq_controlFailure (ranges := [decide (byteAt r 0 0 ≤ 3)]) (by simp only [lengthMatches, hk]; rfl)
    fun _ => by simp [fieldsInRange, hk]

theorem loadKeymapCheck_eq (hk : r.kind = 0x24#8) : loadKeymapCheck r = controlFailure r := by
  refine firstFailure_eq_controlFailure
    (ranges := [decide (byteAt r 0 0 ≤ 1) && decide (byteAt r 0 1 + byteAt r 0 2 ≤ 128) &&
      r.body.tail.all (fun w => (keyActionOf w).isSome)])
    (by simp only [lengthMatches, hk]; rfl) fun hl => ?_
  have hlen : r.body.length - 1 = byteAt r 0 2 := by
    simp only [Bool.and_eq_true, decide_eq_true_eq] at hl
    exact Nat.sub_eq_of_eq_add' hl.2
  have haction : ∀ k, (keyActionOf (wordAt r.body (1 + k))).isSome = true ↔
      byteAt r (1 + k) 1 ≤ 3 ∧ (byteAt r (1 + k) 1 ≠ 2 ∨ byteAt r (1 + k) 2 ≤ 6) := fun _ => keyActionOf_isSome _
  simp [tail_eq_map_wordAt, hlen, fieldsInRange, hk, haction, and_assoc]

theorem loadBannerCheck_eq (hk : r.kind = 0x25#8) : loadBannerCheck r = controlFailure r :=
  firstFailure_eq_controlFailure (ranges := [decide (byteAt r 0 0 + (r.body.length - 1) ≤ 256)])
    (by simp [lengthMatches, hk, Nat.one_le_iff_ne_zero]) fun _ => by simp [fieldsInRange, hk]

theorem setBannerCheck_eq (hk : r.kind = 0x26#8) : setBannerCheck r = controlFailure r :=
  firstFailure_eq_controlFailure (ranges := [decide (halfAt r 0 0 ≤ 1024) && decide (halfAt r 0 0 % 4 = 0)])
    (by simp only [lengthMatches, hk]; rfl) fun _ => by simp [fieldsInRange, hk]

theorem setViewCheck_eq (hk : r.kind = 0x27#8) : setViewCheck r = controlFailure r := by
  refine firstFailure_eq_controlFailure
    (ranges := [decide (halfAt r 0 0 ≤ 1279) && decide (halfAt r 2 0 ≤ 1279) && decide (halfAt r 0 1 ≤ 1535) &&
        decide (halfAt r 2 1 ≤ 1535),
      decide (byteAt r 3 0 ≤ 1) && decide (byteAt r 3 1 ≤ 1) && decide (byteAt r 3 2 ≤ 1),
      decide (halfAt r 1 0 ≤ logicalHeight (byteOf (wordAt r.body 3) 0 == 1))])
    (by simp only [lengthMatches, hk]; rfl) fun _ => ?_
  have hheight : logicalHeight (byteOf (wordAt r.body 3) 0 == 1) = if byteAt r 3 0 = 1 then 1280 else 800 := by
    simp [logicalHeight, byteOf_eq_one_iff]
  simp only [fieldsInRange, hk, BitVec.reduceToNat, hheight, List.all_cons, List.all_nil, id,
    Bool.and_eq_true, decide_eq_true_eq]
  tauto

theorem panelCheck_eq (hk : r.kind = 0x28#8) : panelCheck r = controlFailure r := by
  refine firstFailure_eq_controlFailure
    (ranges := [(panelActionOf r).isSome, decide (panelActionOf r ≠ some .partialBand) ||
      (decide (halfAt r 1 1 ≤ 799) && decide (halfAt r 1 0 ≤ halfAt r 1 1))])
    (by simp only [lengthMatches, hk]; rfl) fun hl => ?_
  have hbody : r.body ≠ [] := by rintro h; simp [h] at hl
  have hknown : (panelActionOf r).isSome = true ↔ byteAt r 0 0 ≤ 7 := by
    rw [panelActionOf_of_body hbody]; exact panelActionOfCode_isSome _
  have hpartial : panelActionOf r = some .partialBand ↔ byteAt r 0 0 = 3 := by
    rw [panelActionOf_of_body hbody]; exact panelActionOfCode_eq_partial _
  simp [fieldsInRange, hk, hknown, hpartial]

theorem setLinkCheck_eq (hk : r.kind = 0x2B#8) : setLinkCheck r = controlFailure r :=
  firstFailure_eq_controlFailure (ranges := [decide (byteAt r 0 0 ≤ 3)]) (by simp only [lengthMatches, hk]; rfl)
    fun _ => by simp [fieldsInRange, hk]

theorem setKeysCheck_eq (hk : r.kind = 0x2C#8) : setKeysCheck r = controlFailure r :=
  firstFailure_eq_controlFailure (ranges := [decide (byteAt r 0 1 ≤ 3)]) (by simp only [lengthMatches, hk]; rfl)
    fun _ => by simp [fieldsInRange, hk]

theorem setOutageCheck_eq (hk : r.kind = 0x2D#8) : setOutageCheck r = controlFailure r :=
  firstFailure_eq_controlFailure (ranges := [decide (byteAt r 0 0 ≤ 3) && decide (byteAt r 0 1 ≤ 3)])
    (by simp only [lengthMatches, hk]; rfl) fun _ => by simp [fieldsInRange, hk]

/-- The kinds of which nothing but the length is checked. -/
theorem lengthCheck_eq {words : Nat}
    (h : (r.kind.toNat, words) ∈ [(0x29, 1), (0x2A, 1), (0x2E, 1), (0x2F, 0), (0x30, 0), (0x31, 0)]) :
    lengthCheck words r = controlFailure r := by
  have hrow : lengthMatches r = decide (r.body.length = words) ∧ fieldsInRange r = true := by
    simp only [List.mem_cons, List.not_mem_nil, or_false, Prod.mk.injEq] at h
    rcases h with ⟨hk, rfl⟩ | ⟨hk, rfl⟩ | ⟨hk, rfl⟩ | ⟨hk, rfl⟩ | ⟨hk, rfl⟩ | ⟨hk, rfl⟩ <;>
      simp only [lengthMatches, fieldsInRange, hk, and_self]
  exact firstFailure_eq_controlFailure (ranges := []) hrow.1 fun _ => by simp [hrow.2]

end

/-! # The refusals of control and draw records -/

/-- The step of a control record, other than an ASK record, takes it with the checks of its kind. -/
def TakesControl (r : Record) (s : State) : Prop :=
  ∃ check effect, check r = controlFailure r ∧ exec (recordCommand r) s = live s (takeControl r.kind check effect)

theorem TakesControl.of {r : Record} {s : State} {code : Byte} {check : Record → Option Reason}
    {effect : Record → State → State} (hk : r.kind = code) (hc : check r = controlFailure r)
    (hx : exec (recordCommand r) s = live s (takeControl code check effect)) : TakesControl r s :=
  ⟨check, effect, hc, hk ▸ hx⟩

/-- A PANEL record is taken by the step of its action, or, where it names none, by that of START (R133). -/
theorem exec_panelCommand {s : State} {f : RxFrame} {r : Record} (hr : s.recordOf? 0x28 = some (f, r)) :
    ∃ effect, exec (panelCommand r) s = live s (takeControl 0x28 panelCheck effect) := by
  have htake : ∀ a effect, panelActionOf r = some a ∨ panelActionOf r = none →
      live s (takePanel a effect) = live s (takeControl 0x28 panelCheck effect) := by
    intro a effect ha
    simp only [live, takePanel, hr, if_pos ha]
  unfold panelCommand
  cases ha : panelActionOf r with
  | none => exact ⟨_, htake .start _ (.inr ha)⟩
  | some a => cases a <;> exact ⟨_, htake _ _ (.inl ha)⟩

/-- The step of every control record, other than an ASK record, takes it with the checks of its kind. -/
theorem takesControl {s : State} {f : RxFrame} {r : Record} (hat : AtRecord s f r) (h1 : 0x20 ≤ r.kind.toNat)
    (h2 : r.kind.toNat ≤ 0x31) : TakesControl r s := by
  have hcode : r.kind = 0x20#8 ∨ r.kind = 0x21#8 ∨ r.kind = 0x22#8 ∨ r.kind = 0x23#8 ∨ r.kind = 0x24#8 ∨
      r.kind = 0x25#8 ∨ r.kind = 0x26#8 ∨ r.kind = 0x27#8 ∨ r.kind = 0x28#8 ∨ r.kind = 0x29#8 ∨ r.kind = 0x2A#8 ∨
      r.kind = 0x2B#8 ∨ r.kind = 0x2C#8 ∨ r.kind = 0x2D#8 ∨ r.kind = 0x2E#8 ∨ r.kind = 0x2F#8 ∨ r.kind = 0x30#8 ∨
      r.kind = 0x31#8 := by bv_omega
  rcases hcode with hk | hk | hk | hk | hk | hk | hk | hk | hk | hk | hk | hk | hk | hk | hk | hk | hk | hk
  · exact .of hk (loadPenCheck_eq hk) (by rw [recordCommand, hk]; rfl)
  · exact .of hk (loadPaneCheck_eq hk) (by rw [recordCommand, hk]; rfl)
  · exact .of hk (loadPaletteCheck_eq hk) (by rw [recordCommand, hk]; rfl)
  · exact .of hk (loadShadeCheck_eq hk) (by rw [recordCommand, hk]; rfl)
  · exact .of hk (loadKeymapCheck_eq hk) (by rw [recordCommand, hk]; rfl)
  · exact .of hk (loadBannerCheck_eq hk) (by rw [recordCommand, hk]; rfl)
  · exact .of hk (setBannerCheck_eq hk) (by rw [recordCommand, hk]; rfl)
  · exact .of hk (setViewCheck_eq hk) (by rw [recordCommand, hk]; rfl)
  · obtain ⟨effect, hx⟩ := exec_panelCommand (r := r) (hk ▸ recordOf?_of_atRecord hat)
    exact .of hk (panelCheck_eq hk) (by rw [recordCommand, hk]; exact hx)
  · exact .of hk (lengthCheck_eq (words := 1) (by simp [hk])) (by rw [recordCommand, hk]; rfl)
  · exact .of hk (lengthCheck_eq (words := 1) (by simp [hk])) (by rw [recordCommand, hk]; rfl)
  · exact .of hk (setLinkCheck_eq hk) (by rw [recordCommand, hk]; rfl)
  · exact .of hk (setKeysCheck_eq hk) (by rw [recordCommand, hk]; rfl)
  · exact .of hk (setOutageCheck_eq hk) (by rw [recordCommand, hk]; rfl)
  · exact .of hk (lengthCheck_eq (words := 1) (by simp [hk])) (by rw [recordCommand, hk]; rfl)
  · exact .of hk (lengthCheck_eq (words := 0) (by simp [hk])) (by rw [recordCommand, hk]; rfl)
  · exact .of hk (lengthCheck_eq (words := 0) (by simp [hk])) (by rw [recordCommand, hk]; rfl)
  · exact .of hk (lengthCheck_eq (words := 0) (by simp [hk])) (by rw [recordCommand, hk]; rfl)

/-- A control record of a CTRL frame that fails a check (R30). -/
theorem exec_control_refused {s : State} {f : RxFrame} {r : Record} {e : Reason} (hat : AtRecord s f r)
    (hf : f.kind = .ctrl) (h1 : 0x20 ≤ r.kind.toNat) (h2 : r.kind.toNat ≤ 0x31) (he : controlFailure r = some e) :
    exec (recordCommand r) s = .next ((s.refuse r.kind r.tag (some f.sequence) e).advance r) := by
  obtain ⟨check, effect, hc, hx⟩ := takesControl hat h1 h2
  rw [hx, live_released hat.1]
  simp only [takeControl, recordOf?_of_atRecord hat, hf, hc, he]
  rfl

/-- A control or ASK record of a DRAW frame (R29). -/
theorem exec_control_misplaced {s : State} {f : RxFrame} {r : Record} (hat : AtRecord s f r) (hf : f.kind = .draw)
    (h : (0x20 ≤ r.kind.toNat ∧ r.kind.toNat ≤ 0x31) ∨ (0x38 ≤ r.kind.toNat ∧ r.kind.toNat ≤ 0x3C)) :
    exec (recordCommand r) s = .next ((s.refuse r.kind r.tag (some f.sequence) .misplaced).advance r) := by
  rcases h with ⟨h1, h2⟩ | ⟨h1, h2⟩
  · obtain ⟨check, effect, -, hx⟩ := takesControl hat h1 h2
    rw [hx, live_released hat.1]
    simp only [takeControl, recordOf?_of_atRecord hat, if_pos hf]
    rfl
  · rw [exec_ask h1 h2, live_released hat.1]
    simp only [takeAsk, recordOf?_of_atRecord hat, if_pos hf]
    rfl

theorem exec_drawStep (k : DrawKind) (s : State) : exec (drawStep k) s = live s (takeDraw k) := by cases k <;> rfl

/-- A draw record of a CTRL frame (R29). -/
theorem exec_draw_misplaced {s : State} {f : RxFrame} {r : Record} {k : DrawKind} (hat : AtRecord s f r)
    (hf : f.kind = .ctrl) (hk : r.kind = k.code) :
    exec (drawStep k) s = .next ((s.refuse r.kind r.tag (some f.sequence) .misplaced).advance r) := by
  have hr := recordOf?_of_atRecord hat
  rw [hk] at hr
  rw [exec_drawStep, live_released hat.1]
  simp only [takeDraw, hr, if_pos hf]
  rfl

/-- Settles O13. -/
theorem recordsAreRefused : Obligations.RecordsAreRefused := by
  refine ⟨⟨fun s f r k hat hf hk => exec_draw_misplaced hat hf hk, fun s f r hat hf h =>
    exec_control_misplaced hat hf h⟩, fun s f r hat hf h1 h2 => ⟨fun hl => ?_, fun hl hr => ?_⟩⟩
  · exact exec_control_refused hat hf h1 h2 (by simp [controlFailure, firstFailure, hl])
  · exact exec_control_refused hat hf h1 h2 (by simp [controlFailure, firstFailure, hl, hr])

end Sys2Proof.Machine

namespace Sys2Proof.Machine

set_option Elab.async false

open Sys2Proof.Statements

/-! # Accepted control records -/

theorem kind_of_accepted {s : State} {f : RxFrame} {r : Record} {code : Byte} (h : Accepted s f r code) :
    r.kind = code := by
  obtain ⟨-, -, hk, -, -⟩ := h
  exact hk

/-- An accepted control record has its effect, and the walk goes on (R27). -/
theorem takeControl_of_accepted {s : State} {f : RxFrame} {r : Record} {code : Byte} (h : Accepted s f r code)
    {check : Record → Option Reason} (effect : Record → State → State) (hc : check r = controlFailure r) :
    live s (takeControl code check effect) = .next ((effect r s).advance r) := by
  obtain ⟨hat, hctrl, hk, -, -⟩ := id h
  have hr := recordOf?_of_atRecord hat
  rw [hk] at hr
  rw [live_released hat.1, takeControl_accepted hr hctrl (hc.trans (controlFailure_of_accepted h))]

/-! ## Keyboard records (R32, R140, R143, R147, R148) -/

/-- What a row of words loads into a table: the entries of the row, and the others as they were. -/
theorem get_setRun_map {α : Type} [Inhabited α] {n count start : Nat} (t : Table α n) (g : Nat → α) {i : Nat}
    (hi : i < n) : (t.setRun start ((List.range count).map g)).get i =
      if start ≤ i ∧ i < start + count then g (i - start) else t.get i := by
  rw [Table.get_setRun _ _ _ hi]
  by_cases hlo : start ≤ i
  · by_cases hhi : i < start + count
    · have hk : i - start < count := by omega
      simp [hlo, hhi, List.getD_eq_getElem?_getD, hk]
    · have hk : count ≤ i - start := by omega
      simp [hlo, hhi, List.getD_eq_getElem?_getD, hk]
  · simp [hlo]

/-- A loaded keymap entry, by the bytes of its word (spec/12_formats.md). -/
theorem keymapEntryOf_fields {w : Word} (h : (keyActionOf w).isSome = true) :
    (keymapEntryOf w).code = byteOf w 0 ∧ ((keymapEntryOf w).action = .key ↔ (byteOf w 1).toNat = 0) ∧
      ((keymapEntryOf w).action = .fn ↔ (byteOf w 1).toNat = 1) ∧
      ((byteOf w 1).toNat = 2 → (keymapEntryOf w).action = .lamp (byteOf w 2).toNat) ∧
      ((keymapEntryOf w).action = .ignore ↔ (byteOf w 1).toNat = 3) := by
  refine ⟨rfl, ?_⟩
  simp only [keymapEntryOf]
  unfold keyActionOf at h ⊢
  split at h
  next hk => simp [hk]
  next hk => simp [hk]
  next hk =>
    split at h
    next hl => simp [hk, hl]
    next => cases h
  next hk => simp [hk]
  next => cases h

/-- The body and the fields of an accepted LOAD_KEYMAP (R143). -/
theorem loadKeymap_of_accepted {s : State} {f : RxFrame} {r : Record} (h : Accepted s f r 0x24) :
    r.body.tail = (List.range (byteAt r 0 2)).map (fun k => wordAt r.body (1 + k)) ∧ byteAt r 0 0 ≤ 1 ∧
      byteAt r 0 1 + byteAt r 0 2 ≤ 128 ∧
      ∀ k < byteAt r 0 2, (keyActionOf (wordAt r.body (1 + k))).isSome = true := by
  obtain ⟨-, -, hk, hl, hf⟩ := h
  simp only [lengthMatches, hk, BitVec.reduceToNat, Bool.and_eq_true, decide_eq_true_eq] at hl
  simp only [fieldsInRange, hk, BitVec.reduceToNat, Bool.and_eq_true, Bool.or_eq_true, decide_eq_true_eq,
    List.all_eq_true, List.mem_range] at hf
  obtain ⟨⟨hlayer, hrun⟩, hentries⟩ := hf
  refine ⟨?_, hlayer, hrun, fun k hlt => (keyActionOf_isSome _).mpr (hentries k hlt)⟩
  rw [tail_eq_map_wordAt, hl.2, Nat.add_sub_cancel_left]

theorem lampAfter_eq (on off was : Bool) :
    lampAfter on off was = if on then (if off then !was else true) else (if off then false else was) := by
  cases on <;> cases off <;> rfl

theorem holdLimitOf_eq {n : Nat} (h : n ≤ 3) :
    holdLimitOf n = ([some 0, some 500, some 2000, none][n]?).getD none := by
  match n, h with
  | 0, _ | 1, _ | 2, _ | 3, _ => rfl

theorem exec_loadKeymap {s : State} {f : RxFrame} {r : Record} (h : Accepted s f r 0x24) :
    exec .loadKeymap s = .next (State.advance { s with keys := { s.keys with
      keymap := s.keys.keymap.setRun (byteAt r 0 0 * 128 + byteAt r 0 1)
        ((List.range (byteAt r 0 2)).map fun k => keymapEntryOf (wordAt r.body (1 + k))) } } r) := by
  have hk := kind_of_accepted h
  have hrow : r.body.tail.map keymapEntryOf =
      (List.range (byteAt r 0 2)).map fun k => keymapEntryOf (wordAt r.body (1 + k)) := by
    rw [(loadKeymap_of_accepted h).1, List.map_map]
    rfl
  rw [exec, execLoadKeymap, takeControl_of_accepted h _ (loadKeymapCheck_eq hk), hrow]
  rfl

theorem exec_lamps {s : State} {f : RxFrame} {r : Record} (h : Accepted s f r 0x2A) :
    exec .lamps s = .next (State.advance { s with keys := { s.keys with
      lamps := s.keys.lamps.mapIdx (fun n was =>
        lampAfter ((byteOf (wordAt r.body 0) 0).getLsbD n) ((byteOf (wordAt r.body 0) 1).getLsbD n) was) } } r) := by
  have hk := kind_of_accepted h
  rw [exec, execLamps, takeControl_of_accepted h _ (lengthCheck_eq (by simp [hk]))]

theorem exec_setKeys {s : State} {f : RxFrame} {r : Record} (h : Accepted s f r 0x2C) :
    exec .setKeys s = .next (State.advance
      { s with
        keys := { s.keys with debounce := max 2 (min 15 (byteAt r 0 0)) }
        keyq := { s.keyq with holdLimit := ([some 0, some 500, some 2000, none][byteAt r 0 1]?).getD none } } r) := by
  obtain ⟨-, -, hk, -, hf⟩ := id h
  simp only [fieldsInRange, hk, BitVec.reduceToNat, decide_eq_true_eq] at hf
  rw [exec, execSetKeys, takeControl_of_accepted h _ (setKeysCheck_eq hk), ← holdLimitOf_eq hf]
  rfl

/-- Lamps 0 to 6 are driven by their states (R148). -/
theorem lampLit_low {s : State} (hr : s.resetLine = false) (hd : s.power.device ≠ .doze) {n : Nat} (hn : n < 7) :
    lampLit s n = s.keys.lamps.get n := by
  rw [lampLit, if_neg (by simp [hr, hd]), if_pos hn]

/-- Lamp 7 is driven by the link state (R148). -/
theorem lampLit_link {s : State} (hr : s.resetLine = false) (hd : s.power.device ≠ .doze) :
    (s.link.state = .up → lampLit s 7 = true) ∧ (s.link.state = .absent → lampLit s 7 = false) ∧
      (s.link.state = .acquiring ∨ s.link.state = .quiet →
        (lampLit s 7 = true ↔ s.status.timeBase.toNat % 500 < 250)) := by
  rw [lampLit, if_neg (by simp [hr, hd]), if_neg (by decide)]
  refine ⟨fun hl => ?_, fun hl => ?_, fun hl => ?_⟩
  · simp [hl]
  · simp [hl]
  · rcases hl with hl | hl <;> simp [hl]

/-- Settles O16. -/
theorem keyboardRecords : Obligations.KeyboardRecords := by
  refine ⟨fun s f r h => ?_, fun s f r h => ⟨_, exec_lamps h, ?_⟩, fun s f r h => exec_setKeys h, fun s n =>
    ⟨fun hdark => ?_, fun hr hd => ⟨fun hn => lampLit_low hr hd hn, lampLit_link hr hd⟩⟩⟩
  · obtain ⟨-, hlayer, hrun, hentries⟩ := loadKeymap_of_accepted h
    refine ⟨_, exec_loadKeymap h, fun layer hl p hp hout => ?_, fun k hk e he => ?_⟩
    · rw [get_setRun_map _ _ (by omega), if_neg (by omega)]
    · rw [get_setRun_map _ _ (by omega), if_pos (by omega),
        show byteAt r 0 0 * 128 + (byteAt r 0 1 + k) - (byteAt r 0 0 * 128 + byteAt r 0 1) = k by omega] at he
      obtain ⟨hcode, hactions⟩ := keymapEntryOf_fields (hentries k hk)
      exact he ▸ ⟨congrArg BitVec.toNat hcode, hactions⟩
  · rintro n hn on off rfl rfl
    rw [Table.get_mapIdx _ _ hn, lampAfter_eq]
  · rw [lampLit, if_pos hdark]

/-! ## RESET and CLEAR_COUNTS (R36 to R38) -/

/-- A soft reset frees the slot of an outstanding request (R37). -/
def slotsAfterSoftReset (s : State) : Table Slot 4 :=
  match s.digest.request with
  | some q => s.dec.slots.set q.slot .free
  | none => s.dec.slots

theorem softReset_eq (s : State) : s.softReset =
    { s with
      engine := { s.engine with pens := State.reset.engine.pens }
      panes := State.reset.panes
      digest := State.reset.digest
      status := { State.reset.status with timeBase := s.status.timeBase }
      dec := { s.dec with slots := slotsAfterSoftReset s, lastRefusal := none } } := by
  unfold State.softReset State.softResetDigest slotsAfterSoftReset
  cases s.digest.request <;> rfl

theorem slotsAfterSoftReset_get (s : State) {n : Nat} (hn : n < 4) :
    (slotsAfterSoftReset s).get n =
      if ∃ q, s.digest.request = some q ∧ q.slot = n then .free else s.dec.slots.get n := by
  unfold slotsAfterSoftReset
  cases s.digest.request with
  | none => simp
  | some q =>
    simp only [Table.get_set, Option.some.injEq, exists_eq_left']
    by_cases h : q.slot = n
    · simp [h, hn]
    · simp [h]

/-- Settles O18. -/
theorem softResetAndClearCounts : Obligations.SoftResetAndClearCounts := by
  refine ⟨fun s f r h => ⟨slotsAfterSoftReset s, ?_, fun n hn => ?_⟩, fun s f r h =>
    ⟨s.colour.sets.mapIdx (fun _ x => { x with clip := false }), ?_, fun n hn => Table.get_mapIdx _ _ hn⟩⟩
  · have hk := kind_of_accepted h
    rw [exec, execReset, takeControl_of_accepted h _ (lengthCheck_eq (by simp [hk])), softReset_eq]
  · rw [slotsAfterSoftReset_get s hn]
  · have hk := kind_of_accepted h
    rw [exec, execClearCounts, takeControl_of_accepted h _ (lengthCheck_eq (by simp [hk]))]
    rfl

end Sys2Proof.Machine

namespace Sys2Proof.Machine

set_option Elab.async false

/-! # The reset line and the clear pass (R39, R44, R72, R76, R163) -/

theorem live_held {s : State} (h : s.resetLine = true) (e : State → State) : live s e = .next s := by
  rw [live, if_pos h]

/-- While the reset line is asserted a command does nothing, but for the three that act on the line and the contact
(assumption log 6). -/
theorem exec_held {s : State} {c : Instr} (h : s.resetLine = true) (h1 : c ≠ .resetAssert) (h2 : c ≠ .resetRelease)
    (h3 : ∀ v, c ≠ .presenceContactChange v) (hw : c.wellFormed = true) : exec c s = .next s := by
  cases c with
  | resetAssert => exact absurd rfl h1
  | resetRelease => exact absurd rfl h2
  | presenceContactChange v => exact absurd rfl (h3 v)
  | dozePixelLoss x y v =>
    rw [exec, execDozePixelLoss, if_pos (by exact hw)]
    exact live_held h _
  | _ =>
    rw [exec]
    exact live_held h _

/-- The end of the clear pass, where no digest is VALID or RUNNING (R44, R54). -/
theorem exec_clearPassEnd_quiet {s : State} (hr : s.resetLine = false) (hc : s.engine.holder = .clearPass)
    (hd : ∀ n < 16, (s.panes.get n).digest = .none) (hrun : s.digest.running = none) :
    exec .clearPassEnd s =
      .next { s with store := [], engine := { s.engine with holder := .free, job := none, cleared := 0 } } := by
  have hquiet : s.clearUpTo storePixels = { s with
      store := clearCells s.store s.engine.cleared storePixels
      engine := { s.engine with cleared := storePixels } } :=
    State.touchWhere_quiet _ _ (fun n hn => by rw [hd n hn]; rfl) hrun
  rw [exec, execClearPassEnd, onEvent_occurs hr (by simp [hc]), hquiet]

/-- Settles O4. -/
theorem resetLineAndClearPass : Obligations.ResetLineAndClearPass := by
  refine ⟨⟨fun s => rfl, fun s c h h1 h2 h3 hw => exec_held h h1 h2 h3 hw⟩, fun s h => ?_, fun s hr hc hd hrun =>
    ⟨_, exec_clearPassEnd_quiet hr hc hd hrun, fun x y _ _ => rfl, rfl⟩⟩
  rw [exec, execResetRelease, if_pos h]

/-! # The frame end (R24, R122, R127, R130, R134, R136) -/

/-- A second release of a SYNC wait finds none (R24). -/
theorem releaseSync_releaseSync (s : State) : s.releaseSync.releaseSync = s.releaseSync := by
  by_cases hd : s.dec.state = .syncWait
  · rw [releaseSync_eq s, if_pos hd]
    rcases walkFrom_cases s 0 with ⟨-, h⟩ | ⟨f, rest, -, ⟨-, h⟩ | ⟨-, h⟩⟩
    · rw [h, releaseSync_eq, if_pos hd, h]
    · rw [h, releaseSync_eq, if_neg (by simp [(finishFrame_rxq s).2.2])]
    · rw [h, releaseSync_eq, if_neg (by simp [State.setDecoder])]
  · have hs : s.releaseSync = s := by rw [releaseSync_eq, if_neg hd]
    rw [hs, hs]

/-- The backlight's step (R136). -/
theorem backlightStep_cases (actual target : Nat) :
    (actual < target → backlightStep actual target = min target (actual + 4)) ∧
      (target < actual → backlightStep actual target = max target (actual - 4)) ∧
      (actual = target → backlightStep actual target = actual) := by
  unfold backlightStep
  refine ⟨fun h => ?_, fun h => ?_, fun h => ?_⟩
  · rw [if_pos h]
  · rw [if_neg (by omega), if_pos h]
  · rw [if_neg (by omega), if_neg (by omega)]

theorem exec_frameEnd {s : State} (hr : s.resetLine = false) (hs : s.panel.state.scanning = true) :
    exec .frameEnd s = .next (State.releaseSync (State.panelAtFrameEnd
      { s with scan := s.scan.frameEnd, panel := s.panel.latchModes })) := by
  rw [exec, execFrameEnd, onEvent_occurs hr hs]

/-- The second blank frame with STOP pending: the panel passes through RUNNING to STOPPING (R130, R131). -/
theorem reachRunning_stop {s : State} (h : s.panel.request = .stop) :
    s.reachRunning =
      State.stopPanel (State.setFlag { s with panel := { s.panel with state := .running } } .panelReady) := by
  rw [State.reachRunning]
  exact if_pos h

theorem reachRunning_stay {s : State} (h : s.panel.request ≠ .stop) :
    s.reachRunning = State.setFlag { s with panel := { s.panel with state := .running } } .panelReady := by
  rw [State.reachRunning]
  exact if_neg h

/-- Settles O21. -/
theorem frameEndEffects : Obligations.FrameEndEffects := by
  rintro s scan panel hr rfl rfl
  refine ⟨fun hp => ?_, fun hp => ?_, fun hp hstop => ?_, fun hp hstop => ?_⟩ <;>
    rw [exec_frameEnd hr (by rw [hp]; rfl), State.panelAtFrameEnd]
  · refine ⟨backlightStep s.panel.actual s.panel.target, ?_, backlightStep_cases _ _⟩
    simp only [Panel.latchModes, hp]
    rfl
  · simp only [Panel.latchModes, hp]
    rfl
  · simp only [Panel.latchModes, hp]
    rw [if_neg (by decide), reachRunning_stay (by exact hstop)]
    rfl
  · simp only [Panel.latchModes, hp]
    rw [if_neg (by decide), reachRunning_stop (by exact hstop), State.stopPanel, releaseSync_releaseSync]
    rfl

end Sys2Proof.Machine

namespace Sys2Proof.Machine

set_option Elab.async false

/-! # What every step keeps of the frame store and the panes (R40, R45 to R47) -/

/-! ## Where the panes lie -/

/-- What of a pane's entry says whether it is there and where it lies: its valid field and its rectangle. -/
def Pane.place (p : Pane) : Bool × Nat × Nat × Nat × Nat := (p.valid, p.left, p.top, p.width, p.height)

/-- The places of the panes of a table. -/
def places (panes : Table Pane 16) (n : Nat) : Bool × Nat × Nat × Nat × Nat := (panes.get n).place

theorem places_eq_iff {t u : Table Pane 16} :
    places t = places u ↔ ∀ n, (t.get n).valid = (u.get n).valid ∧ (t.get n).left = (u.get n).left ∧
      (t.get n).top = (u.get n).top ∧ (t.get n).width = (u.get n).width ∧ (t.get n).height = (u.get n).height := by
  simp only [funext_iff, places, Pane.place, Prod.mk.injEq]

theorem places_modify {f : Pane → Pane} (hf : ∀ p, (f p).place = p.place) (t : Table Pane 16) (n : Nat) :
    places (t.modify n f) = places t := by
  funext m
  rw [places, Table.get_modify, places]
  split
  · exact hf _
  · rfl

theorem places_mapIdx {f : Nat → Pane → Pane} (hf : ∀ n p, (f n p).place = p.place) (t : Table Pane 16) :
    places (t.mapIdx f) = places t := by
  funext m
  rw [places, places]
  by_cases hm : m < 16
  · rw [Table.get_mapIdx _ _ hm, hf]
  · rw [Table.get_beyond _ (by omega), Table.get_beyond _ (by omega)]

section

variable (s : State)

@[simp] theorem setDigestState_places (n : Nat) (d : DigestState) :
    places (s.setDigestState n d).panes = places s.panes := places_modify (by intro; rfl) _ _

@[simp] theorem dropDozeDigests_places : places s.dropDozeDigests.panes = places s.panes :=
  places_mapIdx (by intros; rfl) _

@[simp] theorem digestGoOn_places : places s.digestGoOn.panes = places s.panes := by
  unfold State.digestGoOn
  split <;> simp

@[simp] theorem abandonRun_places : places s.abandonRun.panes = places s.panes := digestGoOn_places _

theorem touchedBy_place (hit : Pane → Bool) (p : Pane) : (p.touchedBy hit).place = p.place := by
  unfold Pane.touchedBy
  split <;> rfl

@[simp] theorem touchWhere_places (hit : Pane → Bool) : places (s.touchWhere hit).panes = places s.panes := by
  have h : places (s.panes.mapIdx fun _ p => p.touchedBy hit) = places s.panes :=
    places_mapIdx (fun _ p => touchedBy_place hit p) _
  unfold State.touchWhere
  dsimp only
  split <;> simp [h]

@[simp] theorem touch_places (x y : Nat) : places (s.touch x y).panes = places s.panes := touchWhere_places _ _

@[simp] theorem clearUpTo_places (hi : Nat) : places (s.clearUpTo hi).panes = places s.panes := touchWhere_places _ _

@[simp] theorem paintPixel_places (job : Job) (o : Nat × Nat) :
    places (s.paintPixel job o).panes = places s.panes := by
  unfold State.paintPixel
  dsimp only
  split <;> simp

@[simp] theorem paint_places (job : Job) (offsets : List (Nat × Nat)) :
    places (s.paint job offsets).panes = places s.panes :=
  List.foldlRecOn (motive := fun u : State => places u.panes = places s.panes) offsets _ rfl
    fun _ hu _ _ => (paintPixel_places _ _ _).trans hu

@[simp] theorem finishJob_places (job : Job) : places (s.finishJob job).panes = places s.panes := by
  unfold State.finishJob
  dsimp only
  split
  · exact (places_modify (by intro; rfl) _ _).trans (paint_places _ _ _)
  · simp

@[simp] theorem acceptDigestRequest_places (q : DigestRequest) :
    places (s.acceptDigestRequest q).panes = places s.panes := by
  have h : ∀ joins : Nat → Pane → Bool,
      places (s.panes.mapIdx fun n p => if joins n p then { p with digest := .pending } else p) = places s.panes :=
    fun joins => places_mapIdx (fun _ _ => by split <;> rfl) _
  unfold State.acceptDigestRequest
  dsimp only
  split
  · exact (digestGoOn_places _).trans (h _)
  · exact h _

@[simp] theorem answerDigest_places (n : Nat) (f : RxFrame) (r : Record) :
    places (answerDigest n f r s).panes = places s.panes := by
  unfold answerDigest
  split <;> simp

@[simp] theorem answerOf_places (code : Byte) (n : Nat) (f : RxFrame) (r : Record) :
    places (answerOf code n f r s).panes = places s.panes := by
  rcases answerOf_cases code with e | e | ⟨check, body, e⟩ | e <;> simp [e]

/-- Every answer leaves the store and the engine as they are. -/
@[simp] theorem answerOf_engine (code : Byte) (n : Nat) (f : RxFrame) (r : Record) :
    (answerOf code n f r s).store = s.store ∧ (answerOf code n f r s).engine = s.engine := by
  rcases answerOf_cases code with e | e | ⟨check, body, e⟩ | e <;> simp [e]

@[simp] theorem forgetPane_places (n : Nat) : places (s.forgetPane n).panes = places s.panes := by
  unfold State.forgetPane
  dsimp only
  split
  · simp
  · split <;> simp

@[simp] theorem abandonPass_places : places s.abandonPass.panes = places s.panes := by
  unfold State.abandonPass
  split <;> simp

@[simp] theorem abortDoze_places : places s.abortDoze.panes = places s.panes := by simp [State.abortDoze]

@[simp] theorem admission_places (f : RxFrame) : places (s.admission f).panes = places s.panes := by
  unfold State.admission State.admitFrame
  split
  · simp
  · dsimp only
    split <;> simp

@[simp] theorem keepFrame_places (kind flags sequence : Byte) (payload : List Byte) :
    places (s.keepFrame kind flags sequence payload).panes = places s.panes := by
  unfold State.keepFrame
  dsimp only
  split <;> simp

@[simp] theorem endFrame_places (buffer : List Byte) : places (s.endFrame buffer).panes = places s.panes := by
  unfold State.endFrame State.classify
  dsimp only
  (repeat' split) <;> simp

@[simp] theorem endCheck_places (anyLost : Bool) : places (s.endCheck anyLost).panes = places s.panes := by
  unfold State.endCheck
  dsimp only
  split <;> simp

@[simp] theorem engineRuns_places : places s.engineRuns.panes = places s.panes := by
  unfold State.engineRuns
  dsimp only
  split
  · simp
  · split <;> simp

end

/-! ## Pixels -/

/-- The store's list is in its canonical form and lists only pixels that exist (R40). -/
def ListsPixels (m : List Host.Cell) : Prop := Memory.wf m = true ∧ ∀ c ∈ m, c.1 < 1280 * 1536

theorem pixelAddress_lt {x y : Nat} (hx : x < 1280) (hy : y < 1536) : pixelAddress x y < 1280 * 1536 := by
  unfold pixelAddress
  omega

/-- A write lists no address but its own that was not listed. -/
theorem mem_writeCell {m : List Host.Cell} {a : Nat} {v : Byte} {c : Host.Cell} (h : c ∈ writeCell m a v) :
    c ∈ m ∨ c.1 = a := by
  induction m with
  | nil =>
    unfold writeCell at h
    split at h <;> simp_all
  | cons d rest ih =>
    unfold writeCell at h
    (repeat' split at h) <;> simp only [List.mem_cons] at h ⊢
    case isFalse.isFalse => exact h.elim (fun h => .inl (.inl h)) fun h => (ih h).imp_left .inr
    all_goals grind

theorem ListsPixels.writeCell {m : List Host.Cell} (h : ListsPixels m) {a : Nat} (ha : a < 1280 * 1536) (v : Byte) :
    ListsPixels (writeCell m a v) :=
  ⟨Memory.wf_writeCell h.1 a v, fun c hc => (mem_writeCell hc).elim (h.2 c) fun e => e ▸ ha⟩

theorem ListsPixels.clearCells {m : List Host.Cell} (h : ListsPixels m) (lo hi : Nat) :
    ListsPixels (clearCells m lo hi) :=
  ⟨Memory.wf_clearCells h.1 lo hi, fun c hc => h.2 c (List.mem_of_mem_filter hc)⟩

/-- The destination pixel of an offset lies in the frame store (R80, R88). -/
def Job.covers (job : Job) (o : Nat × Nat) : Prop :=
  0 ≤ job.left + o.1 ∧ job.left + o.1 < 1280 ∧ 0 ≤ job.top + o.2 ∧ job.top + o.2 < 1536

theorem Job.covers.column_lt {job : Job} {o : Nat × Nat} (h : job.covers o) : job.column o.1 < 1280 := by
  obtain ⟨h0, h1, -, -⟩ := h
  unfold Job.column
  omega

theorem Job.covers.row_lt {job : Job} {o : Nat × Nat} (h : job.covers o) : job.row o.2 < 1536 := by
  obtain ⟨-, -, h0, h1⟩ := h
  unfold Job.row
  omega

/-- What one pixel of a job leaves in the store: the index that the pixel rule gives (R62 to R66). -/
theorem paintPixel_store (s : State) (job : Job) (o : Nat × Nat) :
    (s.paintPixel job o).store =
      writeCell s.store (pixelAddress (job.column o.1) (job.row o.2)) (job.result s.store o.1 o.2) := by
  unfold State.paintPixel
  dsimp only
  split
  · simp [State.writePixel]
  · rfl

theorem ListsPixels.paint {s : State} (h : ListsPixels s.store) {job : Job} {offsets : List (Nat × Nat)}
    (hin : ∀ o ∈ offsets, job.covers o) : ListsPixels (s.paint job offsets).store :=
  List.foldlRecOn (motive := fun u : State => ListsPixels u.store) offsets _ h fun u hu o ho => by
    rw [paintPixel_store]
    exact hu.writeCell (pixelAddress_lt (hin o ho).column_lt (hin o ho).row_lt) _

theorem ListsPixels.finishJob {s : State} (h : ListsPixels s.store) {job : Job} (hin : job.inStore) :
    ListsPixels (s.finishJob job).store := by
  have h1 : ListsPixels (s.paint job job.todo).store := h.paint hin
  unfold State.finishJob
  dsimp only
  split
  · exact h1
  · exact h1

/-! ## The jobs of the engine -/

/-- The places alone decide whether the panes are sound. -/
theorem PanesSound.congr {s t : State} (h : PanesSound s) (hp : places t.panes = places s.panes) : PanesSound t := by
  have hp := places_eq_iff.mp hp
  obtain ⟨hwhole, hinside⟩ := h
  constructor
  · obtain ⟨h1, h2, h3, h4, h5⟩ := hp 0
    rwa [h1, h2, h3, h4, h5]
  · intro n hn
    obtain ⟨-, h2, h3, h4, h5⟩ := hp n
    rw [Pane.inStore, h2, h3, h4, h5]
    exact hinside n hn

/-- No entry reaches beyond the store, nor does the one that is read beyond the table. -/
theorem PanesSound.fits {s : State} (h : PanesSound s) (n : Nat) :
    (s.panes.get n).left + (s.panes.get n).width ≤ 1280 ∧ (s.panes.get n).top + (s.panes.get n).height ≤ 1536 := by
  by_cases hn : n < 16
  · obtain ⟨-, hx, -, hy⟩ := h.inside n hn
    exact ⟨hx, hy⟩
  · rw [Table.get_beyond _ (by omega)]
    exact ⟨by decide, by decide⟩

theorem mem_offsetsOf {rows columns : List Nat} {o : Nat × Nat} :
    o ∈ offsetsOf rows columns ↔ o.1 ∈ columns ∧ o.2 ∈ rows := by
  obtain ⟨i, j⟩ := o
  simp [offsetsOf, and_comm]

theorem mem_wholePane {p : Pane} {o : Nat × Nat} : o ∈ wholePane p ↔ o.1 < p.width ∧ o.2 < p.height := by
  simp [wholePane, mem_offsetsOf]

theorem clearJob_inStore {p : Pane} (hx : p.left + p.width ≤ 1280) (hy : p.top + p.height ≤ 1536) (n : Nat) :
    (clearJob n p).inStore := by
  intro o ho
  obtain ⟨h1, h2⟩ := mem_wholePane.mp ho
  dsimp only [clearJob]
  omega

theorem mem_offsetRange {lo hi : Int} (hlo : 0 ≤ lo) {i : Nat} : i ∈ offsetRange lo hi ↔ lo ≤ i ∧ (i : Int) < hi := by
  simp only [offsetRange, List.mem_range'_1]
  omega

theorem mem_keptColumns {kind : DrawKind} {pane : Pane} {body : List Word} {i : Nat} :
    i ∈ keptColumns kind pane body ↔ i < recW body ∧ 0 ≤ recX body + i ∧ recX body + i < pane.width ∧
      (kind.copies = true → 0 ≤ recSx body + i ∧ recSx body + i < 1280) := by
  unfold keptColumns
  split
  next h => rw [mem_offsetRange (by omega)]; simp only [h, true_imp_iff]; omega
  next h => rw [mem_offsetRange (by omega)]; simp [h]; omega

theorem mem_keptRows {kind : DrawKind} {pane : Pane} {body : List Word} {j : Nat} :
    j ∈ keptRows kind pane body ↔ j < recH body ∧ 0 ≤ recY body + j ∧ recY body + j < pane.height ∧
      (kind.copies = true → 0 ≤ recSy body + j ∧ recSy body + j < 1536) := by
  unfold keptRows
  split
  next h => rw [mem_offsetRange (by omega)]; simp only [h, true_imp_iff]; omega
  next h => rw [mem_offsetRange (by omega)]; simp [h]; omega

/-- The order of the engine leaves no offset out and adds none. -/
theorem mem_destinationOf {kind : DrawKind} {pane : Pane} {body : List Word} {o : Nat × Nat} :
    o ∈ destinationOf kind pane body ↔ o.1 ∈ keptColumns kind pane body ∧ o.2 ∈ keptRows kind pane body := by
  unfold destinationOf
  dsimp only
  rw [mem_offsetsOf]
  split <;> split <;> simp

theorem rectangleJob_inStore {pane : Pane} (hx : pane.left + pane.width ≤ 1280) (hy : pane.top + pane.height ≤ 1536)
    (kind : DrawKind) (pen : Pen) (body : List Word) : (rectangleJob kind pen pane body).inStore := by
  intro o ho
  obtain ⟨hi, hj⟩ := mem_destinationOf.mp ho
  obtain ⟨-, hi0, hi1, -⟩ := mem_keptColumns.mp hi
  obtain ⟨-, hj0, hj1, -⟩ := mem_keptRows.mp hj
  dsimp only [rectangleJob]
  omega

/-- The job of a record that is drawn: its rectangle, or for CLEAR its whole pane. -/
theorem examineDraw_job {kind : DrawKind} {pens : Table Pen 32} {panes : Table Pane 16} {body : List Word} {job : Job}
    (h : (examineDraw kind pens panes body).job? = some job) :
    job = clearJob (recPane body) (panes.get (recPane body)) ∨
      job = rectangleJob kind (pens.get (recPen body)) (panes.get (recPane body)) body := by
  unfold examineDraw at h
  dsimp only at h
  (repeat' split at h) <;> simp_all [DrawOutcome.job?]

/-- The engine is given no job that leaves the store (R80, R88). -/
theorem PanesSound.examineDraw_inStore {s : State} (h : PanesSound s) {kind : DrawKind} {pens : Table Pen 32}
    {body : List Word} {job : Job} (hj : (examineDraw kind pens s.panes body).job? = some job) : job.inStore := by
  obtain ⟨hx, hy⟩ := h.fits (recPane body)
  rcases examineDraw_job hj with rfl | rfl
  · exact clearJob_inStore hx hy _
  · exact rectangleJob_inStore hx hy _ _ _

/-! ## What keeps the store sound -/

theorem StoreSound.listsPixels {s : State} (h : StoreSound s) : ListsPixels s.store := ⟨h.canonical, h.pixels⟩

/-- The store, the places of the panes and the job decide whether the store is sound. -/
theorem StoreSound.of_store {s t : State} (h : StoreSound s) (hm : ListsPixels t.store)
    (hp : places t.panes = places s.panes := by simp) (hj : t.engine.job = s.engine.job := by simp) :
    StoreSound t where
  canonical := hm.1
  pixels := hm.2
  panes := h.panes.congr hp
  job := by rw [hj]; exact h.job

theorem StoreSound.congr {s t : State} (h : StoreSound s) (hm : t.store = s.store := by simp)
    (hp : places t.panes = places s.panes := by simp) (hj : t.engine.job = s.engine.job := by simp) :
    StoreSound t := h.of_store (hm ▸ h.listsPixels) hp hj

theorem StoreSound.setEngine {s : State} (h : StoreSound s) (holder : Holder) {job : Option Job}
    (hj : ∀ j, job = some j → j.inStore) : StoreSound (s.setEngine holder job) :=
  ⟨h.canonical, h.pixels, h.panes.congr rfl, hj⟩

theorem StoreSound.setWork {s : State} (h : StoreSound s) (w : DigestWork) : StoreSound (s.setWork w) :=
  h.congr rfl rfl rfl

theorem StoreSound.giveBack {s : State} (h : StoreSound s) (holder : Holder) : StoreSound (s.setEngine holder none) :=
  h.setEngine holder fun _ hj => nomatch hj

theorem StoreSound.paint {s : State} (h : StoreSound s) {job : Job} {offsets : List (Nat × Nat)}
    (hin : ∀ o ∈ offsets, job.covers o) : StoreSound (s.paint job offsets) :=
  h.of_store (h.listsPixels.paint hin)

theorem StoreSound.finishJob {s : State} (h : StoreSound s) {job : Job} (hj : s.engine.job = some job) :
    StoreSound (s.finishJob job) := h.of_store (h.listsPixels.finishJob (h.job job hj))

theorem StoreSound.beginClearing {s : State} (h : StoreSound s) (n : Nat) (rest : List Nat) :
    StoreSound (s.beginClearing n rest) := by
  have h1 : StoreSound (s.modifyPane n fun p => { p with lost := true, digest := .none }) :=
    h.congr (hp := places_modify (by intro; rfl) _ _)
  obtain ⟨hx, hy⟩ := h1.panes.fits n
  have h2 := h1.setEngine .retention (job := some (clearJob n _)) fun j hj =>
    Option.some.inj hj ▸ clearJob_inStore hx hy n
  exact h2.setWork _

theorem StoreSound.checkMade {s : State} (h : StoreSound s) (lost : List Nat) : StoreSound (s.checkMade lost) := by
  unfold State.checkMade
  split
  · exact h.congr
  · exact h.beginClearing _ _

theorem StoreSound.endPlay {s : State} (h : StoreSound s) : StoreSound s.endPlay := giveBack h.congr .free

theorem StoreSound.bannerRead {s : State} (h : StoreSound s) (cursor : Nat) : StoreSound (s.bannerRead cursor) := by
  unfold State.bannerRead
  split
  · exact h.endPlay
  · split
    · exact endPlay h.congr
    · exact setEngine h.congr .banner fun j hj => h.panes.examineDraw_inStore hj

theorem StoreSound.engineRuns {s : State} (h : StoreSound s) : StoreSound s.engineRuns := by
  unfold State.engineRuns
  dsimp only
  split
  · exact h.of_store (by simpa using h.listsPixels.clearCells _ _)
  · split
    · exact h
    next job hjob =>
      have hin := h.job job hjob
      have hpaint : ∀ k, StoreSound (s.paint job (job.todo.take k)) := fun k =>
        h.paint fun o ho => hin o (List.mem_of_mem_take ho)
      have hleft : ∀ k, Job.inStore { job with todo := job.todo.drop k } := fun k o ho =>
        hin o (List.mem_of_mem_drop ho)
      exact ((hpaint _).setEngine s.engine.holder fun j hj => Option.some.inj hj ▸ hleft _).congr rfl rfl rfl

/-! ## The taking of records -/

theorem StoreSound.takeControl {s : State} (h : StoreSound s) {code : Byte} {check : Record → Option Reason}
    {effect : Record → State → State} (he : ∀ r, check r = none → StoreSound (effect r s)) :
    StoreSound (takeControl code check effect s) :=
  takeControl_keeps h (fun _ _ _ _ _ => h.congr) (fun _ r _ _ _ hc => (he r hc).congr)

theorem StoreSound.takePanel {s : State} (h : StoreSound s) {a : PanelAction} {effect : Record → State → State}
    (he : ∀ r, StoreSound (effect r s)) : StoreSound (takePanel a effect s) :=
  takePanel_keeps h (h.takeControl fun r _ => he r)

theorem StoreSound.takeDraw {s : State} (h : StoreSound s) (kind : DrawKind) : StoreSound (takeDraw kind s) := by
  rcases takeDraw_cases kind s with e | ⟨f, r, -, -, ⟨-, e⟩ | ⟨-, -, o, rfl, ⟨job, cut, ho, e⟩ | ⟨-, e⟩⟩⟩ <;> rw [e]
  · exact h
  · exact h.congr
  · have hin : job.inStore := h.panes.examineDraw_inStore (congrArg DrawOutcome.job? ho)
    exact setEngine h.congr .decoder fun j hj => Option.some.inj hj ▸ hin
  · exact h.congr

theorem StoreSound.takeAsk {s : State} (h : StoreSound s) {code : Byte}
    {answer : Nat → RxFrame → Record → State → State}
    (ha : ∀ {u}, StoreSound u → ∀ n f r, StoreSound (answer n f r u)) : StoreSound (takeAsk code answer s) :=
  takeAsk_keeps h (fun _ _ _ => h.congr) (fun n f r => (ha (u := s.setSlot n (.reserved r.kind r.tag)) h.congr n f r).congr) (fun _ => h.congr)

theorem StoreSound.answerWith {s : State} (h : StoreSound s) (check : Record → Option Reason)
    (body : Record → State → List Word) (n : Nat) (f : RxFrame) (r : Record) :
    StoreSound (answerWith check body n f r s) := h.congr

/-- The rectangle of an accepted LOAD_PANE fits, and pane 0 is neither removed nor moved (R47, R49). -/
theorem loadPaneCheck_none {r : Record} (h : loadPaneCheck r = none) :
    (headByte r 0 = 0 → headByte r 1 ≠ 0) ∧
      (headByte r 1 ≠ 0 → headByte r 0 ≠ 0 →
        rectangleFits (recLeft r.body) (recTop r.body) (recWidth r.body) (recHeight r.body) = true) := by
  simp only [loadPaneCheck, firstFailure_eq_none, List.forall_mem_cons, Bool.and_eq_true, Bool.or_eq_true,
    Bool.not_eq_true', Bool.and_eq_false_iff, decide_eq_true_eq, decide_eq_false_iff_not] at h
  tauto

theorem loaded_inStore {p : Pane} (hp : p.inStore) {r : Record} (hr : loadPaneCheck r = none) :
    (p.loaded (headByte r 0) r).inStore := by
  obtain ⟨-, hfits⟩ := loadPaneCheck_none hr
  unfold Pane.loaded
  split
  · exact hp
  · dsimp only
    split
    · exact hp
    · have hf := hfits ‹_› ‹_›
      simp only [rectangleFits, Bool.and_eq_true, decide_eq_true_eq] at hf
      unfold Pane.inStore
      dsimp only
      omega

/-- LOAD_PANE of pane 0 leaves it valid, and its rectangle as it was (R49). -/
theorem loaded_zero_place {p : Pane} (hp : p.valid = true) {r : Record} (hr : loadPaneCheck r = none)
    (h0 : headByte r 0 = 0) : (p.loaded (headByte r 0) r).place = p.place := by
  obtain ⟨hvalid, -⟩ := loadPaneCheck_none hr
  simp [Pane.loaded, hvalid h0, h0, Pane.place, hp]

theorem StoreSound.loadPaneEffect {s : State} (h : StoreSound s) {r : Record} (hr : loadPaneCheck r = none) :
    StoreSound (loadPaneEffect r s) := by
  have h1 : StoreSound (s.modifyPane (headByte r 0) fun p => p.loaded (headByte r 0) r) := by
    refine ⟨h.canonical, h.pixels, ⟨?_, fun n hn => ?_⟩, h.job⟩
    · obtain ⟨hv, hrect⟩ := h.panes.whole
      simp only [State.modifyPane, Table.get_modify]
      split
      next h0 =>
        have hplace := loaded_zero_place hv hr h0.1
        simp only [Pane.place, Prod.mk.injEq] at hplace
        obtain ⟨h1, h2, h3, h4, h5⟩ := hplace
        rw [h1, h2, h3, h4, h5]
        exact ⟨hv, hrect⟩
      next => exact ⟨hv, hrect⟩
    · simp only [State.modifyPane, Table.get_modify]
      split
      · exact loaded_inStore (h.panes.inside n hn) hr
      · exact h.panes.inside n hn
  unfold Machine.loadPaneEffect
  exact h1.congr

/-! ## The commands -/

theorem StoreSound.of_reset {s : State} (hm : ListsPixels s.store) (hp : s.panes = State.reset.panes)
    (hj : ∀ job, s.engine.job = some job → job.inStore) : StoreSound s :=
  ⟨hm.1, hm.2, reset_storeSound.panes.congr (by rw [hp]), hj⟩

theorem StoreSound.setOutage {s t : State} (h : StoreSound s) (hx : execSetOutage s = .next t) : StoreSound t := by
  refine live_keeps hx h fun _ => h.takeControl fun r _ => ?_
  dsimp only
  (repeat' split) <;> exact h.congr

theorem StoreSound.dataSymbol {s t : State} (h : StoreSound s) {b : Byte} (hx : execDataSymbol b s = .next t) :
    StoreSound t := by
  refine onEvent_keeps hx h fun _ _ => ?_
  dsimp only
  (repeat' split) <;> exact h.congr

theorem StoreSound.retentionPassPaneDone {s t : State} (h : StoreSound s)
    (hx : execRetentionPassPaneDone s = .next t) : StoreSound t := by
  refine live_keeps hx h fun _ => ?_
  split
  next n _ =>
    have h1 : StoreSound (s.modifyPane n fun p =>
        { p with
          digest := .valid (paneDigest s.store (s.panes.get n))
          dozeDigest := some (paneDigest s.store (s.panes.get n)) }) :=
      h.congr (hp := places_modify (by intro; rfl) _ _)
    dsimp only
    split <;> exact h1.congr
  all_goals exact h

theorem StoreSound.retentionCheckPaneDone {s t : State} (h : StoreSound s)
    (hx : execRetentionCheckPaneDone s = .next t) : StoreSound t := by
  refine onEvent_keeps hx h fun _ _ => ?_
  split
  next n lost _ =>
    have h1 : ∀ b d, StoreSound (if b = true then s.setDigestState n d else s) := by
      intro b d
      split <;> exact h.congr
    dsimp only
    split
    · exact (h1 _ _).setWork _
    · exact (h1 _ _).checkMade _
  all_goals exact h

theorem StoreSound.retentionClearPaneDone {s t : State} (h : StoreSound s)
    (hx : execRetentionClearPaneDone s = .next t) : StoreSound t := by
  refine onEvent_keeps hx h fun _ _ => ?_
  split
  next rest job _ hjob =>
    have h1 : StoreSound (s.paint job job.todo) := h.paint (h.job job hjob)
    dsimp only
    split
    · exact (h1.giveBack .free).congr
    · exact h1.beginClearing _ _
  · exact h

theorem StoreSound.bannerRecordDone {s t : State} (h : StoreSound s) (hx : execBannerRecordDone s = .next t) :
    StoreSound t := by
  refine onEvent_keeps hx h fun _ _ => ?_
  split
  · have h1 : StoreSound (match s.engine.job with
        | some job => s.finishJob job
        | none => s) := by
      split
      next hjob => exact h.finishJob hjob
      · exact h
    dsimp only
    split
    · exact h1.bannerRead _
    · exact h1.endPlay
  · exact h

theorem StoreSound.keyScan {s t : State} (h : StoreSound s) {raw : BitVec 128} (hx : execKeyScan raw s = .next t) :
    StoreSound t := by
  refine onEvent_keeps hx h fun _ _ => ?_
  dsimp only
  split
  · exact h.congr
  · exact List.foldlRecOn _ _ (List.foldlRecOn _ _ h.congr fun _ hu _ _ => hu.congr) fun _ hu _ _ => hu.congr

theorem StoreSound.dozePixelLoss {s t : State} (h : StoreSound s) {x y : Nat} {v : Byte}
    (hx : execDozePixelLoss x y v s = .next t) : StoreSound t := by
  unfold execDozePixelLoss at hx
  split at hx
  next hin =>
    simp only [pixelExists, Bool.and_eq_true, decide_eq_true_eq] at hin
    exact onEvent_keeps hx h fun _ _ =>
      h.of_store (h.listsPixels.writeCell (pixelAddress_lt (by omega) (by omega)) v)
  · cases hx

theorem StoreSound.exec {c : Instr} {s t : State} (h : StoreSound s) (hx : exec c s = .next t) : StoreSound t := by
  cases c with
  | resetAssert => injection hx with hx; subst hx; exact .of_reset h.listsPixels rfl fun _ hj => nomatch hj
  | resetRelease | presenceContactChange =>
    injection hx with hx; subst hx; split <;> exact h.congr
  | clearPassEnd =>
    rw [Machine.exec] at hx
    exact onEvent_keeps hx h fun _ _ =>
      ⟨rfl, fun _ hc => absurd hc List.not_mem_nil, h.panes.congr (by simp), fun _ hj => nomatch hj⟩
  | presenceClosed | presenceOpen | startSymbol | silenceTimeout | bannerDelayExpiry | flowSymbolSend | keysFrameStart
  | noticeFrameStart | dozeTimerExpiry | powerUpEnd | powerDownEnd | frameEnd =>
    rw [Machine.exec] at hx
    exact onEvent_keeps hx h fun _ _ => h.congr
  | laneLockGained | upstreamFrameEnd =>
    rw [Machine.exec] at hx
    exact live_keeps hx h fun _ => h.congr
  | laneLockLost =>
    rw [Machine.exec] at hx
    refine onEvent_keeps hx h fun _ _ => ?_
    dsimp only
    split <;> exact h.congr
  | dataSymbol b => exact h.dataSymbol hx
  | frameTake | brokenRecord | replyFrameStart | retentionPassStart =>
    rw [Machine.exec] at hx
    refine onEvent_keeps hx h fun _ _ => ?_
    (repeat' split) <;> exact h.congr
  | slotGranted | unknownRecord | digestRunEnd | recomputeStep =>
    rw [Machine.exec] at hx
    refine live_keeps hx h fun _ => ?_
    (repeat' split) <;> exact h.congr
  | fill | clear | glyph | planes | move | keymove =>
    rw [Machine.exec] at hx
    exact live_keeps hx h fun _ => h.takeDraw _
  | drawComplete =>
    rw [Machine.exec] at hx
    refine onEvent_keeps hx h fun _ _ => ?_
    split
    next hjob _ => exact ((h.finishJob hjob).giveBack .free).congr
    · exact h
  | loadPane =>
    rw [Machine.exec] at hx
    exact live_keeps hx h fun _ => h.takeControl fun _ hr => h.loadPaneEffect hr
  | reset =>
    rw [Machine.exec] at hx
    exact live_keeps hx h fun _ => h.takeControl fun _ _ =>
      .of_reset (by simpa using h.listsPixels) rfl (by rw [softReset_eq]; exact h.job)
  | loadPen | loadPalette | loadShade | loadKeymap | loadBanner | setBanner | backlight | lamps | setKeys | setNotice
  | clearCounts =>
    rw [Machine.exec] at hx
    exact live_keeps hx h fun _ => h.takeControl fun _ _ => h.congr rfl rfl rfl
  | setView =>
    rw [Machine.exec] at hx
    refine live_keeps hx h fun _ => h.takeControl fun _ _ => ?_
    unfold setViewEffect
    split <;> exact h.congr
  | setLink =>
    rw [Machine.exec] at hx
    refine live_keeps hx h fun _ => h.takeControl fun _ _ => ?_
    dsimp only
    split <;> exact h.congr
  | doze =>
    rw [Machine.exec] at hx
    refine live_keeps hx h fun _ => h.takeControl fun _ _ => ?_
    split <;> exact h.congr
  | setOutage => exact h.setOutage hx
  | panelStart | panelStop | panelFull | panelPartial | panelIdleOn | panelIdleOff | panelShow | panelBlank =>
    rw [Machine.exec] at hx
    exact live_keeps hx h fun _ => h.takePanel fun _ => h.congr
  | askCell | askTable | askId =>
    rw [Machine.exec] at hx
    exact live_keeps hx h fun _ => h.takeAsk fun hu _ _ _ => hu.answerWith _ _ _ _ _
  | askStatus | askDigest =>
    rw [Machine.exec] at hx
    exact live_keeps hx h fun _ => h.takeAsk fun hu _ _ _ => hu.congr
  | retentionPassPaneDone => exact h.retentionPassPaneDone hx
  | oscillatorWaitEnd =>
    rw [Machine.exec] at hx
    refine onEvent_keeps hx h fun _ _ => ?_
    dsimp only
    split <;> exact h.congr
  | retentionCheckPaneDone => exact h.retentionCheckPaneDone hx
  | retentionClearPaneDone => exact h.retentionClearPaneDone hx
  | bannerGrant =>
    rw [Machine.exec] at hx
    refine onEvent_keeps hx h fun _ _ => ?_
    dsimp only
    split
    · exact h.congr
    · exact bannerRead h.congr 0
  | bannerRecordDone => exact h.bannerRecordDone hx
  | keyScan raw => exact h.keyScan hx
  | dozePixelLoss x y v => exact h.dozePixelLoss hx

/-- Settles O52. -/
theorem stepsKeepStoreSound : Obligations.StepsKeepStoreSound := fun _ _ h hx =>
  step_keeps (fun _ _ h => h.congr)
    (fun _ h => idle_keeps (fun _ _ h => h.congr) (fun _ h => h.engineRuns.congr) h)
    (fun _ _ _ h hx => h.exec hx) h hx

end Sys2Proof.Machine

namespace Sys2Proof.Machine

set_option Elab.async false

/-! # What every step keeps of each block's work (R23, R44, R72 to R76, R94, R101 to R105, R163) -/

/-! ## What stays as it is -/

/-- The digest unit's work and request stay as they are, or its request is answered and it is IDLE (R99). -/
def WorkGoesOn (d e : DigestUnit) : Prop :=
  (e.work = d.work ∧ e.request = d.request) ∨ (d.request.isSome = true ∧ e.work = .idle ∧ e.request = none)

@[simp] theorem WorkGoesOn.refl (d : DigestUnit) : WorkGoesOn d d := .inl ⟨rfl, rfl⟩

theorem WorkGoesOn.trans {d e f : DigestUnit} (h : WorkGoesOn d e) (h' : WorkGoesOn e f) : WorkGoesOn d f := by
  rcases h with ⟨hw, hq⟩ | ⟨hsome, hw, hq⟩
  · rwa [WorkGoesOn, hw, hq] at h'
  · rcases h' with ⟨hw', hq'⟩ | ⟨hsome', -⟩
    · exact .inr ⟨hsome, hw'.trans hw, hq'.trans hq⟩
    · rw [hq] at hsome'
      cases hsome'

/-- The device power state, whether the oscillator wait lasts, and whether a banner is being played. -/
def Power.phase (p : Power) : Device × Bool × Bool := (p.device, p.oscillator.isSome, p.bannerCursor.isSome)

/-- Who holds the engine, and whether it is at work on a record. -/
def Engine.phase (e : Engine) : Holder × Bool := (e.holder, e.job.isSome)

theorem phase_eq_iff {p q : Power} : p.phase = q.phase ↔ p.device = q.device ∧
    p.oscillator.isSome = q.oscillator.isSome ∧ p.bannerCursor.isSome = q.bannerCursor.isSome := by
  simp only [Power.phase, Prod.mk.injEq]

theorem enginePhase_eq_iff {e f : Engine} : e.phase = f.phase ↔ e.holder = f.holder ∧ e.job.isSome = f.job.isSome := by
  simp only [Engine.phase, Prod.mk.injEq]

section

variable (s : State)

@[simp] theorem setEngine_engine (holder : Holder) (job : Option Job) :
    (s.setEngine holder job).engine = { s.engine with holder := holder, job := job } := rfl

@[simp] theorem setWork_digest (w : DigestWork) : (s.setWork w).digest = { s.digest with work := w } := rfl

@[simp] theorem setDevice_power (d : Device) : (s.setDevice d).power = { s.power with device := d } := rfl

/-! ### The digest unit -/

@[simp] theorem examineRequest_goesOn : WorkGoesOn s.digest s.examineRequest.digest := by
  unfold State.examineRequest
  split
  · simp
  next q hq =>
    split
    · exact .inr ⟨by rw [hq]; rfl, by simp, by simp⟩
    · simp

@[simp] theorem digestGoOn_goesOn : WorkGoesOn s.digest s.digestGoOn.digest := by
  unfold State.digestGoOn
  split
  · exact .inl ⟨rfl, rfl⟩
  · simp

@[simp] theorem abandonRun_goesOn : WorkGoesOn s.digest s.abandonRun.digest :=
  WorkGoesOn.trans (.inl ⟨rfl, rfl⟩) (digestGoOn_goesOn _)

@[simp] theorem touchWhere_goesOn (hit : Pane → Bool) : WorkGoesOn s.digest (s.touchWhere hit).digest := by
  unfold State.touchWhere
  dsimp only
  split
  · exact abandonRun_goesOn { s with panes := _ }
  · simp

@[simp] theorem clearUpTo_goesOn (hi : Nat) : WorkGoesOn s.digest (s.clearUpTo hi).digest :=
  touchWhere_goesOn { s with store := _, engine := _ } _

theorem paintPixel_goesOn (job : Job) (o : Nat × Nat) : WorkGoesOn s.digest (s.paintPixel job o).digest := by
  unfold State.paintPixel
  dsimp only
  split
  · exact touchWhere_goesOn (s.writePixel _ _ _) _
  · simp

@[simp] theorem paint_goesOn (job : Job) (offsets : List (Nat × Nat)) :
    WorkGoesOn s.digest (s.paint job offsets).digest :=
  List.foldlRecOn (motive := fun u : State => WorkGoesOn s.digest u.digest) offsets _ (.refl _)
    fun _ hu _ _ => hu.trans (paintPixel_goesOn _ _ _)

@[simp] theorem finishJob_goesOn (job : Job) : WorkGoesOn s.digest (s.finishJob job).digest := by
  unfold State.finishJob
  dsimp only
  split <;> simp

@[simp] theorem forgetPane_goesOn (n : Nat) : WorkGoesOn s.digest (s.forgetPane n).digest := by
  unfold State.forgetPane
  dsimp only
  split
  · exact abandonRun_goesOn (s.setDigestState n _)
  · split
    · exact WorkGoesOn.trans (.inl ⟨rfl, rfl⟩) (examineRequest_goesOn _)
    · simp

@[simp] theorem engineRuns_goesOn : WorkGoesOn s.digest s.engineRuns.digest := by
  unfold State.engineRuns
  dsimp only
  split
  · simp
  · split <;> simp

/-! ### Outage and power control -/

@[simp] theorem leaveUp_phase : s.leaveUp.power.phase = s.power.phase := by
  unfold State.leaveUp
  split <;> rfl

@[simp] theorem restartDozeTimer_phase : s.restartDozeTimer.power.phase = s.power.phase := by
  unfold State.restartDozeTimer
  split <;> rfl

@[simp] theorem enterAbsent_phase : s.enterAbsent.power.phase = s.power.phase := by simp [State.enterAbsent]

@[simp] theorem goQuiet_phase : s.goQuiet.power.phase = s.power.phase := leaveUp_phase _

@[simp] theorem endOutage_phase : s.endOutage.power.phase = s.power.phase := rfl

@[simp] theorem goodFrame_phase : s.goodFrame.power.phase = s.power.phase := by
  unfold State.goodFrame State.resume
  split <;> simp

@[simp] theorem bannerReached_phase : s.bannerReached.power.phase = s.power.phase := by
  unfold State.bannerReached
  split <;> rfl

@[simp] theorem timersRun_phase : s.timersRun.power.phase = s.power.phase := by
  simp [State.timersRun, Power.later, Power.phase]

@[simp] theorem engineRuns_phase : s.engineRuns.engine.phase = s.engine.phase := by
  unfold State.engineRuns
  dsimp only
  split
  · simp [Engine.phase]
  · split
    · rfl
    next hjob => simp [Engine.phase, hjob]

end

/-- A frame that joins the tail of the queue does not change the record in hand. -/
theorem record?_joined {s t : State} {f : RxFrame} {r : Record} {more : List RxFrame} (h : s.record? = some (f, r))
    (hs : t.dec.state = s.dec.state) (hf : t.rxq.frames = s.rxq.frames ++ more) : t.record? = some (f, r) := by
  obtain ⟨c, rest, hd, hfr, hread⟩ := record?_some.mp h
  exact record?_some.mpr ⟨c, rest ++ more, hs.trans hd, by rw [hf, hfr, List.cons_append], hread⟩

theorem record?_not_idle {s : State} {f : RxFrame} {r : Record} (h : s.record? = some (f, r)) : s.dec.state ≠ .idle := by
  obtain ⟨c, -, hd, -⟩ := record?_some.mp h
  simp [hd]

/-- What the agreement of the blocks rests on, but for the decoder, stays as it is. -/
structure KeepsWork (s t : State) : Prop where
  resetLine : t.resetLine = s.resetLine := by simp
  digest : WorkGoesOn s.digest t.digest := by simp
  power : t.power.phase = s.power.phase := by simp
  engine : t.engine.phase = s.engine.phase := by simp

/-- The agreement does not rest on anything else; a frame may join the queue where no pass is under way. -/
theorem WorkSound.joined {s t : State} (h : WorkSound s) (hk : KeepsWork s t) (hs : t.dec.state = s.dec.state)
    {more : List RxFrame} (hf : t.rxq.frames = s.rxq.frames ++ more)
    (hpass : ∀ n, s.digest.work = .pass n → more = []) : WorkSound t := by
  obtain ⟨hr, hdig, hp, he⟩ := hk
  obtain ⟨hdev, hosc, hcur⟩ := phase_eq_iff.mp hp
  obtain ⟨hh, hj⟩ := enginePhase_eq_iff.mp he
  have hnone : t.power.oscillator = none ↔ s.power.oscillator = none := by
    rw [← Option.isNone_iff_eq_none, ← Option.isNone_iff_eq_none, ← Option.not_isSome, ← Option.not_isSome, hosc]
  obtain ⟨serving, doze, away, pass, check, clearing, retention, oscillator, waking, banner, decoder, clearPass, job,
    held⟩ := h
  have hdec : t.engine.holder = .decoder →
      t.engine.job.isSome = true ∧ ∃ f r, t.record? = some (f, r) ∧ f.kind = .draw ∧ isDrawCode r.kind = true := by
    intro hd
    obtain ⟨hj', f, r, hrec, hdraw⟩ := decoder (hh ▸ hd)
    exact ⟨hj ▸ hj', f, r, record?_joined hrec hs hf, hdraw⟩
  rcases hdig with ⟨hw, hq⟩ | ⟨hsome, hw, hq⟩
  · constructor
    case decoder => exact hdec
    case pass =>
      intro n hn
      obtain ⟨h1, h2, h3, h4, h5⟩ := pass n (hw ▸ hn)
      exact ⟨hdev ▸ h1, hs ▸ h2, by rw [hf, h3, hpass n (hw ▸ hn)]; rfl, hh ▸ h4, h5⟩
    all_goals simp only [hw, hq, hdev, hosc, hcur, hh, hj, hs, hr, hnone]
    all_goals assumption
  · have hserving := serving.mpr hsome
    have hawake : ¬ (s.power.device = .doze ∨ s.power.device = .waking) := fun ha => by
      obtain ⟨-, -, hnone⟩ := away ha
      rw [hnone] at hsome
      cases hsome
    rw [not_or] at hawake
    constructor
    case decoder => exact hdec
    case retention =>
      intro hret
      obtain ⟨⟨lost, hclear⟩, -⟩ := retention (hh ▸ hret)
      rw [hserving] at hclear
      cases hclear
    all_goals simp only [hw, hq, hdev, hosc, hcur, hh, hj, hs, hr, hnone]
    case banner => exact banner
    case clearPass => exact clearPass
    case job => exact job
    case held =>
      intro hl
      obtain ⟨hd, hfree, -, hactive⟩ := held hl
      exact ⟨hd, hfree, trivial, hactive⟩
    case oscillator => exact fun ho => absurd (oscillator ho).1 hawake.2
    case serving => simp
    case doze => exact fun hd => absurd hd hawake.1
    case away => exact fun ha => absurd ha (not_or.mpr hawake)
    case waking => exact fun ha => absurd ha hawake.2
    case pass => exact fun _ hn => nomatch hn
    case check => exact fun _ _ hn => nomatch hn
    case clearing => exact fun _ hn => nomatch hn

theorem WorkSound.congr {s t : State} (h : WorkSound s) (hk : KeepsWork s t := by exact {})
    (hs : t.dec.state = s.dec.state := by simp) (hf : t.rxq.frames = s.rxq.frames := by simp) : WorkSound t :=
  h.joined hk hs (more := []) (by simpa using hf) fun _ _ => rfl

/-! ## The part awake, at rest, playing and drawing -/

/-- ACTIVE or ENTERING with the line released, and the digest unit IDLE or SERVING. -/
structure Awake (s : State) : Prop where
  released : s.resetLine = false
  device : s.power.device = .active ∨ s.power.device = .entering
  oscillator : s.power.oscillator = none
  work : s.digest.work = .idle ∨ s.digest.work = .serving
  serving : s.digest.work = .serving ↔ s.digest.request.isSome = true

theorem WorkSound.awake {s : State} (h : WorkSound s) (hr : s.resetLine = false)
    (hd : s.power.device = .active ∨ s.power.device = .entering) (hp : ∀ n, s.digest.work ≠ .pass n) : Awake s := by
  have hnot : s.power.device ≠ .waking := by rcases hd with hd | hd <;> simp [hd]
  refine ⟨hr, hd, ?_, ?_, h.serving⟩
  · cases ho : s.power.oscillator with
    | none => rfl
    | some n => exact absurd (h.oscillator (by rw [ho]; rfl)).1 hnot
  · cases hw : s.digest.work with
    | idle => exact .inl rfl
    | serving => exact .inr rfl
    | pass n => exact absurd hw (hp n)
    | check n lost => exact absurd (h.check n lost hw).1 hnot
    | clearing lost => exact absurd (h.clearing lost hw).1 hnot

theorem active_or_entering {d : Device} (h1 : d ≠ .doze) (h2 : d ≠ .waking) : d = .active ∨ d = .entering := by
  cases d <;> simp_all

theorem released_of {s : State} (h : ¬ s.resetLine = true) : s.resetLine = false := by simpa using h

/-- While a frame is in hand, the part is awake (R23, R101, R103). -/
theorem WorkSound.awake_of_frame {s : State} (h : WorkSound s) (hn : s.dec.state ≠ .idle) : Awake s :=
  h.awake (released_of fun hr => hn (h.held hr).1)
    (active_or_entering (fun hd => hn (h.away (.inl hd)).1) fun hd => hn (h.away (.inr hd)).1)
    fun n hp => by
      obtain ⟨-, hidle, -⟩ := h.pass n hp
      exact hn hidle

/-- While the banner is played, a record drawn or the store cleared, the part is awake (R72 to R76). -/
theorem WorkSound.awake_of_busy {s : State} (h : WorkSound s) (h1 : s.engine.holder ≠ .free)
    (h2 : s.engine.holder ≠ .retention) : Awake s := by
  have hnot : ¬ (s.power.device = .doze ∨ s.power.device = .waking) := fun hd => by
    obtain ⟨-, hfree | hret, -⟩ := h.away hd
    · exact h1 hfree
    · exact h2 hret
  obtain ⟨hdoze, hwaking⟩ := not_or.mp hnot
  refine h.awake (released_of fun hr => ?_) (active_or_entering hdoze hwaking) fun n hp => ?_
  · obtain ⟨-, hfree, -⟩ := h.held hr
    exact h1 hfree
  · obtain ⟨-, -, -, hfree, -⟩ := h.pass n hp
    exact h1 hfree

theorem WorkSound.cursor_none {s : State} (h : WorkSound s) (hb : s.engine.holder ≠ .banner) :
    s.power.bannerCursor = none := by
  by_contra hc
  exact hb (h.banner.1.mpr (Option.isSome_iff_ne_none.mpr hc))

theorem Awake.congr {s t : State} (h : Awake s) (hr : t.resetLine = s.resetLine := by simp)
    (hdig : WorkGoesOn s.digest t.digest := by simp) (hdev : t.power.device = s.power.device := by simp)
    (hosc : t.power.oscillator = s.power.oscillator := by simp) : Awake t := by
  obtain ⟨h1, h2, h3, h4, h5⟩ := h
  rcases hdig with ⟨hw, hq⟩ | ⟨-, hw, hq⟩
  · exact ⟨hr.trans h1, hdev ▸ h2, hosc.trans h3, hw ▸ h4, by rw [hw, hq, h5]⟩
  · exact ⟨hr.trans h1, hdev ▸ h2, hosc.trans h3, .inl hw, by simp [hw, hq]⟩

/-- Awake, with the engine FREE and no play of the banner: whatever the decoder does, the blocks agree. -/
structure AtRest (s : State) : Prop extends Awake s where
  holder : s.engine.holder = .free
  job : s.engine.job = none
  cursor : s.power.bannerCursor = none

/-- What is left of the agreement while the part is awake: the engine's holder against the decoder, the banner and the
record in hand. -/
theorem Awake.workSound {s : State} (h : Awake s) (hret : s.engine.holder ≠ .retention)
    (hbanner : s.engine.holder = .banner ↔ s.power.bannerCursor.isSome = true)
    (hidle : s.engine.holder = .banner ∨ s.engine.holder = .clearPass → s.dec.state = .idle)
    (hdecoder : s.engine.holder = .decoder →
      s.engine.job.isSome = true ∧ ∃ f r, s.record? = some (f, r) ∧ f.kind = .draw ∧ isDrawCode r.kind = true)
    (hjob : s.engine.job.isSome = true → s.engine.holder ≠ .free ∧ s.engine.holder ≠ .clearPass) : WorkSound s := by
  obtain ⟨hr, hdev, hosc, hwork, hserving⟩ := h
  have hdoze : s.power.device ≠ .doze := by rcases hdev with hd | hd <;> simp [hd]
  have hwaking : s.power.device ≠ .waking := by rcases hdev with hd | hd <;> simp [hd]
  have hbusy : ∀ w, w ≠ .idle → w ≠ .serving → s.digest.work ≠ w := by
    rintro w h1 h2 rfl
    exact hwork.elim h1 h2
  exact
    { serving := hserving
      doze := fun hd => absurd hd hdoze
      away := fun hd => (hd.elim hdoze hwaking).elim
      pass := fun n hn => absurd hn (hbusy _ (by simp) (by simp))
      check := fun n lost hn => absurd hn (hbusy _ (by simp) (by simp))
      clearing := fun lost hn => absurd hn (hbusy _ (by simp) (by simp))
      waking := fun hd => absurd hd hwaking
      retention := fun hd => absurd hd hret
      oscillator := fun ho => by simp [hosc] at ho
      banner := ⟨hbanner, fun hb => hidle (.inl hb)⟩
      decoder := hdecoder
      clearPass := fun hc => hidle (.inr hc)
      job := hjob
      held := fun hl => by simp [hr] at hl }

theorem AtRest.workSound {s : State} (h : AtRest s) : WorkSound s := by
  obtain ⟨hawake, hholder, hjob, hcursor⟩ := h
  exact hawake.workSound (by simp [hholder]) (by simp [hholder, hcursor]) (by simp [hholder]) (by simp [hholder])
    (by simp [hjob])

theorem WorkSound.atRest {s : State} (h : WorkSound s) (ha : Awake s) (hh : s.engine.holder = .free) : AtRest s where
  toAwake := ha
  holder := hh
  job := by
    by_contra hj
    exact (h.job (Option.isSome_iff_ne_none.mpr hj)).1 hh
  cursor := h.cursor_none (by simp [hh])

/-- With a frame in hand, the engine is FREE or the decoder's (R73). -/
theorem WorkSound.atRest_of_frame {s : State} (h : WorkSound s) (hn : s.dec.state ≠ .idle)
    (hd : s.engine.holder ≠ .decoder) : AtRest s := by
  refine h.atRest (h.awake_of_frame hn) ?_
  cases hh : s.engine.holder with
  | free => rfl
  | decoder => exact absurd hh hd
  | banner => exact absurd (h.banner.2 hh) hn
  | clearPass => exact absurd (h.clearPass hh) hn
  | retention =>
    obtain ⟨⟨lost, hclear⟩, -⟩ := h.retention hh
    exact absurd (h.away (.inr (h.clearing lost hclear).1)).1 hn

/-- A record that the engine is not at work on: the part is at rest. -/
theorem WorkSound.atRest_of_record {s : State} (h : WorkSound s) {f : RxFrame} {r : Record}
    (hr : s.record? = some (f, r)) (hk : f.kind = .ctrl ∨ isDrawCode r.kind = false) : AtRest s := by
  refine h.atRest_of_frame (record?_not_idle hr) fun hd => ?_
  obtain ⟨-, f', r', hr', hf', hk'⟩ := h.decoder hd
  obtain ⟨rfl, rfl⟩ : f = f' ∧ r = r' := by simpa [hr] using hr'
  rcases hk with hk | hk
  · simp [hk] at hf'
  · simp [hk] at hk'

theorem AtRest.congr {s t : State} (h : AtRest s) (hk : KeepsWork s t := by exact {}) : AtRest t := by
  obtain ⟨hr, hdig, hp, he⟩ := hk
  obtain ⟨hdev, hosc, hcur⟩ := phase_eq_iff.mp hp
  obtain ⟨hh, hj⟩ := enginePhase_eq_iff.mp he
  have hnone : ∀ {α : Type} {a b : Option α}, a.isSome = b.isSome → b = none → a = none := by
    rintro α a b h rfl
    simpa using h
  exact ⟨h.toAwake.congr hr hdig hdev ((hnone hosc h.oscillator).trans h.oscillator.symm), hh.trans h.holder,
    hnone hj h.job, hnone hcur h.cursor⟩

/-- The engine is given back: the part is at rest. -/
theorem Awake.giveBack {s : State} (h : Awake s) (hc : s.power.bannerCursor = none) :
    AtRest (s.setEngine .free none) :=
  ⟨h.congr, rfl, rfl, hc⟩

theorem AtRest.enterEntering {s : State} (h : AtRest s) : AtRest s.enterEntering := by
  have h1 : AtRest { s with power := { s.power with
      device := .entering
      remembered := s.panel.state.starting || decide (s.panel.state = .running) } } :=
    ⟨⟨h.released, .inr rfl, h.oscillator, h.work, h.serving⟩, h.holder, h.job, h.cursor⟩
  unfold State.enterEntering
  exact h1.congr

/-- Awake, with the decoder IDLE and the engine in the banner player's hand (R72, R74). -/
theorem Awake.workSound_of_banner {s : State} (h : Awake s) (hs : s.dec.state = .idle)
    (hh : s.engine.holder = .banner) (hc : s.power.bannerCursor.isSome = true) : WorkSound s :=
  h.workSound (by simp [hh]) (by simp [hh, hc]) (fun _ => hs) (by simp [hh]) (by simp [hh])

/-- Awake, with the engine at work on the record in hand (R73). -/
theorem Awake.workSound_of_decoder {s : State} (h : Awake s) (hh : s.engine.holder = .decoder)
    (hj : s.engine.job.isSome = true) {f : RxFrame} {r : Record} (hr : s.record? = some (f, r)) (hf : f.kind = .draw)
    (hk : isDrawCode r.kind = true) (hc : s.power.bannerCursor = none) : WorkSound s :=
  h.workSound (by simp [hh]) (by simp [hh, hc]) (by simp [hh]) (fun _ => ⟨hj, f, r, hr, hf, hk⟩) (by simp [hh])

/-- Awake in the clear pass (R76). -/
theorem Awake.workSound_of_clearPass {s : State} (h : Awake s) (hs : s.dec.state = .idle)
    (hh : s.engine.holder = .clearPass) (hj : s.engine.job = none) (hc : s.power.bannerCursor = none) : WorkSound s :=
  h.workSound (by simp [hh]) (by simp [hh, hc]) (fun _ => hs) (by simp [hh]) (by simp [hj])

end Sys2Proof.Machine

namespace Sys2Proof.Machine

set_option Elab.async false

/-! # What every step keeps of each block's work, step by step -/

/-! ## The decoder's walk -/

/-- A SYNC wait that ends leaves the part as it was, or at rest with the frame walked (R24). -/
theorem WorkSound.releaseSync {s t : State} (h : WorkSound s) (hk : KeepsWork s t := by exact {})
    (hs : t.dec.state = s.dec.state := by simp) (hf : t.rxq.frames = s.rxq.frames := by simp) :
    WorkSound t.releaseSync := by
  rw [releaseSync_eq]
  split
  next hw =>
    have hsync : s.dec.state = .syncWait := hs.symm.trans hw
    have hrest : AtRest s := h.atRest_of_frame (by simp [hsync]) fun hd => by
      obtain ⟨-, f, r, hr, -⟩ := h.decoder hd
      obtain ⟨c, -, hc, -⟩ := record?_some.mp hr
      rw [hsync] at hc
      cases hc
    exact (hrest.congr hk).congr.workSound
  · exact h.congr hk hs hf

theorem WorkSound.stopPanel {s : State} (h : WorkSound s) : WorkSound s.stopPanel := h.releaseSync

theorem WorkSound.requestStop {s : State} (h : WorkSound s) : WorkSound s.requestStop := by
  unfold State.requestStop
  split
  · exact h
  · exact h.congr
  · exact h.congr
  · exact h.stopPanel
  · exact h.congr

theorem WorkSound.reachRunning {s : State} (h : WorkSound s) : WorkSound s.reachRunning := by
  have h1 : WorkSound (State.setFlag { s with panel := { s.panel with state := .running } } .panelReady) := h.congr
  unfold State.reachRunning
  dsimp only
  split
  · exact h1.stopPanel
  · exact h1

theorem WorkSound.panelAtFrameEnd {s : State} (h : WorkSound s) : WorkSound s.panelAtFrameEnd := by
  unfold State.panelAtFrameEnd
  split
  · split
    · exact h.congr
    · exact h.reachRunning
  · exact h.congr
  all_goals exact h

/-! ## Records -/

theorem WorkSound.takeControl {s : State} (h : WorkSound s) {code : Byte} (hcode : isDrawCode code = false)
    {check : Record → Option Reason} {effect : Record → State → State}
    (heffect : AtRest s → ∀ r, AtRest (effect r s)) : WorkSound (takeControl code check effect s) :=
  takeControl_keeps h
    (fun _ _ _ hr hk => (h.atRest_of_record hr (.inr (hk ▸ hcode))).congr.workSound)
    fun _ r hr hk _ _ => (heffect (h.atRest_of_record hr (.inr (hk ▸ hcode))) r).congr.workSound

theorem WorkSound.takePanel {s : State} (h : WorkSound s) {a : PanelAction} {effect : Record → State → State}
    (heffect : AtRest s → ∀ r, AtRest (effect r s)) : WorkSound (takePanel a effect s) :=
  takePanel_keeps h (h.takeControl (by decide) heffect)

theorem WorkSound.takeAsk {s : State} (h : WorkSound s) {code : Byte} (hcode : isDrawCode code = false)
    {answer : Nat → RxFrame → Record → State → State}
    (hanswer : ∀ u : State, AtRest u → ∀ n f r, AtRest (answer n f r u)) : WorkSound (takeAsk code answer s) := by
  rcases takeAsk_cases code answer s with ht | ⟨f, r, hr, hk, ⟨-, ht⟩ | ⟨-, n, -, ht⟩ | ⟨-, -, c, -, ht⟩⟩ <;> rw [ht]
  · exact h
  all_goals have hrest := h.atRest_of_record hr (.inr (hk ▸ hcode))
  · exact hrest.congr.workSound
  · have hslot : AtRest (s.setSlot n (.reserved r.kind r.tag)) := hrest.congr
    exact (hanswer _ hslot n f r).congr.workSound
  · exact hrest.congr.workSound

theorem AtRest.answerWith {s : State} (h : AtRest s) (check : Record → Option Reason)
    (body : Record → State → List Word) (n : Nat) (f : RxFrame) (r : Record) : AtRest (answerWith check body n f r s) := by
  unfold Machine.answerWith
  split <;> exact h.congr

theorem AtRest.answerStatus {s : State} (h : AtRest s) (n : Nat) (f : RxFrame) (r : Record) :
    AtRest (answerStatus n f r s) := by
  unfold Machine.answerStatus
  split <;> exact h.congr

/-- An accepted request sets the digest unit to work (R96). -/
theorem AtRest.acceptDigestRequest {s : State} (h : AtRest s) (q : DigestRequest) : AtRest (s.acceptDigestRequest q) := by
  have hserving : ∀ panes pending, AtRest { s with
      panes := panes
      digest := { s.digest with work := .serving, request := some q, pendingSet := pending } } := fun _ _ =>
    ⟨⟨h.released, h.device, h.oscillator, .inr rfl, by simp⟩, h.holder, h.job, h.cursor⟩
  have hgoesOn : ∀ u : State, AtRest u → AtRest (if u.digest.running = none then u.digestGoOn else u) := fun u hu => by
    split
    · exact hu.congr
    · exact hu
  exact hgoesOn _ (hserving _ _)

theorem AtRest.answerDigest {s : State} (h : AtRest s) (n : Nat) (f : RxFrame) (r : Record) :
    AtRest (answerDigest n f r s) := by
  unfold Machine.answerDigest
  split
  · exact h.congr
  · exact h.acceptDigestRequest _

theorem AtRest.answerOf {s : State} (h : AtRest s) (code : Byte) (n : Nat) (f : RxFrame) (r : Record) :
    AtRest (answerOf code n f r s) := by
  rcases answerOf_cases code with hc | hc | ⟨check, body, hc⟩ | hc <;> rw [hc]
  · exact h.answerStatus n f r
  · exact h.answerDigest n f r
  · exact h.answerWith check body n f r
  · exact h

theorem WorkSound.slotGranted {s t : State} (h : WorkSound s) (hx : execSlotGranted s = .next t) : WorkSound t := by
  refine live_keeps hx h fun _ => ?_
  split
  next c hd =>
    split
    next n f r _ _ =>
      have hrest : AtRest s := h.atRest_of_frame (by simp [hd]) fun hdec => by
        obtain ⟨-, f, r, hr, -⟩ := h.decoder hdec
        obtain ⟨c, -, hc, -⟩ := record?_some.mp hr
        rw [hd] at hc
        cases hc
      have hslot : AtRest ((s.setDecoder (.walking c)).setSlot n (.reserved r.kind r.tag)) := hrest.congr
      exact (hslot.answerOf r.kind n f r).congr.workSound
    · exact h
  all_goals exact h

theorem AtRest.softReset {s : State} (h : AtRest s) : AtRest s.softReset := by
  rw [softReset_eq]
  exact ⟨⟨h.released, h.device, h.oscillator, .inl rfl, by simp [State.reset, DigestUnit.atReset]⟩, h.holder, h.job,
    h.cursor⟩

theorem AtRest.bannerReached_if {s : State} (h : AtRest s) :
    AtRest (if bannerDelayReached s then s.bannerReached else s) := by
  split
  · exact h.congr
  · exact h

theorem AtRest.enterEntering_if {s : State} (h : AtRest s) :
    AtRest (if dozeExpired s then s.enterEntering else s) := by
  split
  · exact h.enterEntering
  · exact h

/-- New delays apply to the running timers at once (R157). -/
theorem AtRest.setOutage {s : State} (h : AtRest s) (bannerDelay dozeDelay : Nat) :
    AtRest (
      let s1 := { s with power := { s.power with bannerDelay := bannerDelay, dozeDelay := dozeDelay } }
      let s2 := if bannerDelayReached s1 then s1.bannerReached else s1
      if dozeExpired s2 then s2.enterEntering else s2) :=
  (h.congr (by exact { power := rfl })).bannerReached_if.enterEntering_if

theorem AtRest.setLink {s : State} (h : AtRest s) (timeout : Nat) :
    AtRest (
      let s1 := { s with link := { s.link with silenceTimeout := timeout } }
      if silenceDue s1 then s1.goQuiet else s1) := by
  dsimp only
  split <;> exact h.congr

/-! ## Frames and draw records -/

/-- With the decoder IDLE the engine is not the decoder's (R73). -/
theorem WorkSound.holder_of_idle {s : State} (h : WorkSound s) (hd : s.dec.state = .idle) :
    s.engine.holder ≠ .decoder := fun hdec => by
  obtain ⟨-, f, r, hr, -⟩ := h.decoder hdec
  exact record?_not_idle hr hd

theorem WorkSound.not_retention {s : State} (h : WorkSound s) (hd : s.power.device ≠ .waking) :
    s.engine.holder ≠ .retention := fun hret => by
  obtain ⟨⟨lost, hclear⟩, -⟩ := h.retention hret
  exact hd (h.clearing lost hclear).1

theorem WorkSound.frameTake {s t : State} (h : WorkSound s) (hx : execFrameTake s = .next t) : WorkSound t := by
  refine onEvent_keeps hx h fun hr hdue => ?_
  obtain ⟨hd, hq, hdev, hb, hc⟩ := (takeDue_iff s).mp hdue
  have hfree : s.engine.holder = .free := by
    cases hh : s.engine.holder with
    | free => rfl
    | decoder => exact absurd hh (h.holder_of_idle hd)
    | banner => exact absurd hh hb
    | clearPass => exact absurd hh hc
    | retention => exact absurd hh (h.not_retention (by rcases hdev with hw | hw <;> simp [hw]))
  have hpass : ∀ n, s.digest.work ≠ .pass n := fun n hn => by
    obtain ⟨-, -, hempty, -⟩ := h.pass n hn
    exact hq hempty
  have hrest : AtRest s := h.atRest (h.awake hr hdev hpass) hfree
  split <;> exact hrest.congr.workSound

/-- A granted record: the decoder holds the engine until the record is drawn (R73). -/
theorem AtRest.grant {s : State} (h : AtRest s) {f : RxFrame} {r : Record} (hr : s.record? = some (f, r))
    (hf : f.kind = .draw) (hk : isDrawCode r.kind = true) (job : Job) : WorkSound (s.setEngine .decoder (some job)) :=
  Awake.workSound_of_decoder (h.toAwake.congr) rfl rfl hr hf hk h.cursor

theorem WorkSound.takeDraw {s : State} (h : WorkSound s) (kind : DrawKind) : WorkSound (takeDraw kind s) := by
  rcases takeDraw_cases kind s with ht | ⟨f, r, hr, hk, ⟨hf, ht⟩ | ⟨hf, hfree, o, -, ⟨job, cut, -, ht⟩ | ⟨-, ht⟩⟩⟩ <;>
    rw [ht]
  · exact h
  · exact (h.atRest_of_record hr (.inl hf)).congr.workSound
  all_goals
    have hrest : AtRest s := h.atRest_of_frame (record?_not_idle hr) (by simp [hfree])
    have hnoted : AtRest (s.noteOutcome o r.kind r.tag (some f.sequence)) := hrest.congr
  · have hrecord : (s.noteOutcome o r.kind r.tag (some f.sequence)).record? = some (f, r) :=
      record?_joined (more := []) hr (by simp) (by simp)
    exact hnoted.grant hrecord hf (by rw [hk]; cases kind <;> decide) job
  · exact hnoted.congr.workSound

theorem WorkSound.drawComplete {s t : State} (h : WorkSound s) (hx : execDrawComplete s = .next t) : WorkSound t := by
  refine onEvent_keeps hx h fun _ hholder => ?_
  have hdec : s.engine.holder = .decoder := by simpa using hholder
  split
  next job f r _ _ =>
    have hawake : Awake (s.finishJob job) := (h.awake_of_busy (by simp [hdec]) (by simp [hdec])).congr
    have hback : AtRest ((s.finishJob job).setEngine .free none) :=
      hawake.giveBack (by simpa using h.cursor_none (by simp [hdec]))
    exact hback.congr.workSound
  · exact h

end Sys2Proof.Machine

namespace Sys2Proof.Machine

set_option Elab.async false

/-! # The blocks agree: the banner, the doze entry, the wake and the retention check -/

/-! ## The banner player -/

theorem Awake.endPlay {s : State} (h : Awake s) : AtRest s.endPlay := ⟨h.congr rfl (.refl _) rfl rfl, rfl, rfl, rfl⟩

theorem Awake.bannerRead {s : State} (h : Awake s) (hs : s.dec.state = .idle) (cursor : Nat) :
    WorkSound (s.bannerRead cursor) := by
  unfold State.bannerRead
  split
  · exact h.endPlay.workSound
  · split
    · have hcounted : Awake (s.count .malformed) := h.congr
      exact hcounted.endPlay.workSound
    next kind r _ =>
      dsimp only
      refine Awake.workSound_of_banner (h.congr (by simp) (by simp) (by simp) (by simp)) ?_ rfl rfl
      exact (noteOutcome_decoder _ _ _ _ _).trans hs

theorem WorkSound.bannerGrant {s t : State} (h : WorkSound s) (hx : execBannerGrant s = .next t) : WorkSound t := by
  refine onEvent_keeps hx h fun hr hdue => ?_
  obtain ⟨-, hfree, hdev, -, hd⟩ := (bannerGrantDue_iff s).mp hdue
  have hrest : AtRest s := h.atRest (h.awake hr (.inl hdev) fun n hn => by simpa [hdev] using (h.pass n hn).1) hfree
  have hgranted : AtRest { s with power := { s.power with bannerDue := false, bannerPlayed := true } } :=
    hrest.congr (by exact { power := rfl })
  dsimp only
  split
  · exact hgranted.workSound
  · exact hgranted.toAwake.bannerRead hd 0

theorem WorkSound.bannerRecordDone {s t : State} (h : WorkSound s) (hx : execBannerRecordDone s = .next t) :
    WorkSound t := by
  refine onEvent_keeps hx h fun hr hholder => ?_
  have hb : s.engine.holder = .banner := by simpa using hholder
  have hawake : Awake s := h.awake_of_busy (by simp [hb]) (by simp [hb])
  split
  next c _ =>
    dsimp only
    have hdone : ∀ u : State, Awake u → u.dec.state = .idle → WorkSound (match bannerRecord s.power c with
        | some (_, r) => u.bannerRead (c + r.extent)
        | none => u.endPlay) := fun u hu hd => by
      split
      · exact hu.bannerRead hd _
      · exact hu.endPlay.workSound
    refine hdone _ ?_ ?_ <;> split
    · exact hawake.congr
    · exact hawake
    · simpa using h.banner.2 hb
    · exact h.banner.2 hb
  · exact h

/-! ## The doze entry (R166) -/

/-- From ACTIVE the device enters ENTERING: the engine and the decoder go on with what they do. -/
theorem WorkSound.enterEntering {s : State} (h : WorkSound s) (hr : s.resetLine = false)
    (hd : s.power.device = .active) : WorkSound s.enterEntering := by
  have hawake : Awake s := h.awake hr (.inl hd) fun n hn => by simpa [hd] using (h.pass n hn).1
  obtain ⟨released, -, oscillator, work, serving⟩ := hawake
  exact WorkSound.requestStop (Awake.workSound ⟨released, .inr rfl, oscillator, work, serving⟩
    (h.not_retention (by simp [hd])) h.banner.1 (fun hh => hh.elim h.banner.2 h.clearPass) h.decoder h.job)

/-- With the decoder IDLE, the engine FREE, no request and no play of the banner: what a pass, a doze and a wake begin
from. -/
structure Still (s : State) : Prop where
  released : s.resetLine = false
  decoder : s.dec.state = .idle
  holder : s.engine.holder = .free
  job : s.engine.job = none
  request : s.digest.request = none
  cursor : s.power.bannerCursor = none

theorem WorkSound.still {s : State} (h : WorkSound s) (hr : s.resetLine = false) (hd : s.dec.state = .idle)
    (hh : s.engine.holder = .free) (hq : s.digest.request = none) : Still s where
  released := hr
  decoder := hd
  holder := hh
  job := by
    by_contra hj
    exact (h.job (Option.isSome_iff_ne_none.mpr hj)).1 hh
  request := hq
  cursor := h.cursor_none (by simp [hh])

/-- The agreement from a still part: what is left speaks of the device and of the digest unit's work alone. -/
theorem Still.workSound {s : State} (h : Still s) (hw : s.digest.work ≠ .serving)
    (hclear : ∀ lost, s.digest.work ≠ .clearing lost)
    (hdoze : s.power.device = .doze → s.digest.work = .idle)
    (hpass : ∀ n, s.digest.work = .pass n → s.power.device = .entering ∧ s.rxq.frames = [] ∧ n < 16)
    (hcheck : ∀ n lost, s.digest.work = .check n lost →
      s.power.device = .waking ∧ s.power.oscillator = none ∧ n < 16 ∧ ∀ m ∈ lost, m < 16)
    (hosc : s.power.oscillator.isSome = true → s.power.device = .waking ∧ s.digest.work = .idle)
    (hwaking : s.power.device = .waking → s.power.oscillator.isSome = true ∨ s.digest.work ≠ .idle) : WorkSound s := by
  obtain ⟨released, decoder, holder, job, request, cursor⟩ := h
  exact
    { serving := by simp [hw, request]
      doze := fun hd => ⟨holder, hdoze hd⟩
      away := fun _ => ⟨decoder, .inl holder, request⟩
      pass := fun n hn => by
        obtain ⟨h1, h2, h3⟩ := hpass n hn
        exact ⟨h1, decoder, h2, holder, h3⟩
      check := fun n lost hn => by
        obtain ⟨h1, h2, h3, h4⟩ := hcheck n lost hn
        exact ⟨h1, h2, holder, h3, h4⟩
      clearing := fun lost hn => absurd hn (hclear lost)
      retention := by simp [holder]
      oscillator := fun ho => ⟨(hosc ho).1, (hosc ho).2, holder⟩
      waking := hwaking
      banner := by simp [holder, cursor]
      decoder := by simp [holder]
      clearPass := by simp [holder]
      job := by simp [job]
      held := by simp [released] }

/-- The pass goes on with a pane (R101). -/
theorem Still.pass {s : State} (h : Still s) (hd : s.power.device = .entering) (ho : s.power.oscillator = none)
    (hf : s.rxq.frames = []) {n : Nat} (hn : n < 16) : WorkSound (s.setWork (.pass n)) := by
  have hset : Still (s.setWork (.pass n)) := ⟨h.released, h.decoder, h.holder, h.job, h.request, h.cursor⟩
  exact hset.workSound (by simp) (by simp) (by simp [hd]) (by simp [hd, hf, hn]) (by simp) (by simp [ho]) (by simp [hd])

/-- The pass is complete and the device dozes (R101, R166). -/
theorem Still.enterDoze {s : State} (h : Still s) (ho : s.power.oscillator = none) : WorkSound s.enterDoze := by
  have hset : Still ((s.setWork .idle).setDevice .doze) :=
    ⟨h.released, h.decoder, h.holder, h.job, h.request, h.cursor⟩
  exact WorkSound.requestStop
    (hset.workSound (by simp) (by simp) (by simp) (by simp) (by simp) (by simp [ho]) (by simp))

/-- The oscillator wait begins (R169, R170). -/
theorem WorkSound.wake {s : State} (h : WorkSound s) : WorkSound s.wake := by
  rw [wake_eq]
  by_cases hd : s.power.device = .doze
  · obtain ⟨hfree, hidle⟩ := h.doze hd
    obtain ⟨hdec, -, hq⟩ := h.away (.inl hd)
    have hr : s.resetLine = false := released_of fun hr => by
      obtain ⟨-, -, -, hactive⟩ := h.held hr
      simp [hd] at hactive
    obtain ⟨released, decoder, holder, job, request, cursor⟩ := h.still hr hdec hfree hq
    simp only [hd, if_true]
    exact Still.workSound ⟨released, decoder, holder, job, request, cursor⟩ (by simp [hidle]) (by simp [hidle])
      (by simp) (by simp [hidle]) (by simp [hidle]) (by simp [hidle]) (by simp)
  · simpa [hd] using h

theorem nextPane_lt {panes : Table Pane 16} {p : Pane → Bool} {lo n : Nat} (h : nextPane panes p lo = some n) :
    n < 16 := by
  have := List.mem_of_find?_eq_some h
  rw [List.mem_range'_1] at this
  omega


theorem WorkSound.request_none {s : State} (h : WorkSound s) (hw : s.digest.work ≠ .serving) :
    s.digest.request = none := by
  by_contra hq
  exact hw (h.serving.mpr (Option.isSome_iff_ne_none.mpr hq))

theorem WorkSound.oscillator_none {s : State} (h : WorkSound s) (hd : s.power.device ≠ .waking) :
    s.power.oscillator = none := by
  by_contra ho
  exact hd (h.oscillator (Option.isSome_iff_ne_none.mpr ho)).1

theorem WorkGoesOn.unchanged {d e : DigestUnit} (h : WorkGoesOn d e) (hq : d.request = none) :
    e.work = d.work ∧ e.request = none := by
  rcases h with ⟨hw, hr⟩ | ⟨hsome, -⟩
  · exact ⟨hw, hr.trans hq⟩
  · rw [hq] at hsome
    cases hsome

theorem WorkSound.retentionPassStart {s t : State} (h : WorkSound s) (hx : execRetentionPassStart s = .next t) :
    WorkSound t := by
  refine onEvent_keeps hx h fun hr hdue => ?_
  obtain ⟨hdev, hf, hd, hfree, hw⟩ := (passDue_iff s).mp hdue
  have hstill : Still s := h.still hr hd hfree (h.request_none (by simp [hw]))
  have ho := h.oscillator_none (by simp [hdev])
  split
  next n hn => exact hstill.pass hdev ho hf (nextPane_lt hn)
  · exact hstill.enterDoze ho

theorem WorkSound.retentionPassPaneDone {s t : State} (h : WorkSound s) (hx : execRetentionPassPaneDone s = .next t) :
    WorkSound t := by
  refine live_keeps hx h fun hr => ?_
  split
  next n hw =>
    obtain ⟨hdev, hd, hf, hfree, -⟩ := h.pass n hw
    obtain ⟨released, decoder, holder, job, request, cursor⟩ := h.still hr hd hfree (h.request_none (by simp [hw]))
    have hstill : ∀ f, Still (s.modifyPane n f) := fun _ => ⟨released, decoder, holder, job, request, cursor⟩
    have ho := h.oscillator_none (by simp [hdev])
    dsimp only
    split
    next m hm => exact (hstill _).pass hdev ho hf (nextPane_lt hm)
    · exact (hstill _).enterDoze ho
  all_goals exact h

/-! ## The retention check (R103 to R105, R170) -/

/-- The check goes on with a pane (R103). -/
theorem Still.check {s : State} (h : Still s) (hd : s.power.device = .waking) (ho : s.power.oscillator = none) {n : Nat}
    (hn : n < 16) {lost : List Nat} (hlost : ∀ m ∈ lost, m < 16) : WorkSound (s.setWork (.check n lost)) := by
  have hset : Still (s.setWork (.check n lost)) := ⟨h.released, h.decoder, h.holder, h.job, h.request, h.cursor⟩
  refine hset.workSound (by simp) (by simp) (by simp [hd]) (by simp) ?_ (by simp [ho]) (by simp)
  intro n' lost' hcheck
  obtain ⟨rfl, rfl⟩ : n = n' ∧ lost = lost' := by simpa using hcheck
  exact ⟨hd, ho, hn, hlost⟩

theorem Still.endCheck {s : State} (h : Still s) (ho : s.power.oscillator = none) (anyLost : Bool) :
    WorkSound (s.endCheck anyLost) := by
  have hawake : AtRest ((s.dropDozeDigests.setWork .idle).setDevice .active) :=
    ⟨⟨h.released, .inl rfl, ho, .inl rfl, by simp [h.request, State.dropDozeDigests]⟩, h.holder, h.job, h.cursor⟩
  unfold State.endCheck
  cases anyLost <;> exact hawake.congr.workSound

/-- The engine clears a lost pane for the retention check (R75, R104). -/
theorem WorkSound.of_beginClearing {s : State} (hr : s.resetLine = false) (hd : s.dec.state = .idle)
    (hq : s.digest.request = none) (hc : s.power.bannerCursor = none) (hdev : s.power.device = .waking)
    (ho : s.power.oscillator = none) {n : Nat} {rest : List Nat} (hlost : ∀ m ∈ n :: rest, m < 16) :
    WorkSound (s.beginClearing n rest) where
  serving := by simp [State.beginClearing, hq]
  doze := by simp [State.beginClearing, hdev]
  away := by simp [State.beginClearing, hd, hq]
  pass := by simp [State.beginClearing]
  check := by simp [State.beginClearing]
  clearing := by
    intro lost hclear
    obtain rfl : n :: rest = lost := by simpa [State.beginClearing] using hclear
    exact ⟨by simpa [State.beginClearing] using hdev, by simpa [State.beginClearing] using ho, rfl, by simp, hlost⟩
  retention := fun _ => ⟨⟨n :: rest, rfl⟩, rfl⟩
  oscillator := by simp [State.beginClearing, ho]
  waking := by simp [State.beginClearing]
  banner := by simp [State.beginClearing, hc]
  decoder := by simp [State.beginClearing]
  clearPass := by simp [State.beginClearing]
  job := by simp [State.beginClearing]
  held := by simp [State.beginClearing, hr]

theorem Still.checkMade {s : State} (h : Still s) (hd : s.power.device = .waking) (ho : s.power.oscillator = none)
    {lost : List Nat} (hlost : ∀ m ∈ lost, m < 16) : WorkSound (s.checkMade lost) := by
  cases lost with
  | nil => exact h.endCheck ho false
  | cons n rest => exact .of_beginClearing h.released h.decoder h.request h.cursor hd ho hlost

theorem WorkSound.oscillatorWaitEnd {s t : State} (h : WorkSound s) (hx : execOscillatorWaitEnd s = .next t) :
    WorkSound t := by
  refine onEvent_keeps hx h fun hr hdue => ?_
  obtain ⟨hdev, n, hn, -⟩ := (oscillatorDue_iff s).mp hdue
  obtain ⟨-, -, hfree⟩ := h.oscillator (by rw [hn]; rfl)
  obtain ⟨hd, -, hq⟩ := h.away (.inr hdev)
  obtain ⟨released, decoder, holder, job, request, cursor⟩ := h.still hr hd hfree hq
  have hstill : Still { s with power := { s.power with oscillator := none } } :=
    ⟨released, decoder, holder, job, request, cursor⟩
  dsimp only
  split
  next n hn => exact hstill.check hdev rfl (nextPane_lt hn) (by simp)
  · exact hstill.endCheck rfl false

theorem WorkSound.retentionCheckPaneDone {s t : State} (h : WorkSound s) (hx : execRetentionCheckPaneDone s = .next t) :
    WorkSound t := by
  refine onEvent_keeps hx h fun hr hfree => ?_
  split
  next n lost hw =>
    obtain ⟨hdev, ho, hfree, hn, hlost⟩ := h.check n lost hw
    obtain ⟨hd, -, hq⟩ := h.away (.inr hdev)
    obtain ⟨released, decoder, holder, job, request, cursor⟩ := h.still hr hd hfree hq
    dsimp only
    have hgoesOn : ∀ (u : State) (lost : List Nat), Still u → u.power = s.power → (∀ m ∈ lost, m < 16) →
        WorkSound (match nextPane u.panes Pane.hasDozeDigest (n + 1) with
          | some m => u.setWork (.check m lost)
          | none => u.checkMade lost) := fun u lost hu hp hl => by
      split
      next m hm => exact hu.check (hp ▸ hdev) (hp ▸ ho) (nextPane_lt hm) hl
      · exact hu.checkMade (hp ▸ hdev) (hp ▸ ho) hl
    by_cases hintact : (s.panes.get n).dozeDigest = some (paneDigest s.store (s.panes.get n))
    · simp only [hintact, decide_true, if_true]
      exact hgoesOn (s.setDigestState n _) _ ⟨released, decoder, holder, job, request, cursor⟩ rfl hlost
    · simp only [hintact, decide_false, Bool.false_eq_true, if_false]
      refine hgoesOn s _ ⟨released, decoder, holder, job, request, cursor⟩ rfl fun m hm => ?_
      rcases List.mem_append.mp hm with hm | hm
      · exact hlost m hm
      · rw [List.mem_singleton] at hm
        omega
  all_goals exact h

theorem WorkSound.retentionClearPaneDone {s t : State} (h : WorkSound s) (hx : execRetentionClearPaneDone s = .next t) :
    WorkSound t := by
  refine onEvent_keeps hx h fun hr hholder => ?_
  have hret : s.engine.holder = .retention := by simpa using hholder
  split
  next n rest job hw _ =>
    obtain ⟨hdev, ho, -, -, hlost⟩ := h.clearing _ hw
    obtain ⟨hd, -, hq⟩ := h.away (.inr hdev)
    have hc := h.cursor_none (by simp [hret])
    obtain ⟨-, hq'⟩ := (paint_goesOn s job job.todo).unchanged hq
    have hd' : (s.paint job job.todo).dec.state = .idle := by simpa using hd
    have hp : (s.paint job job.todo).power = s.power := by simp
    have hr' : (s.paint job job.todo).resetLine = false := by simpa using hr
    dsimp only
    split
    · have hback : Still ((s.paint job job.todo).setEngine .free none) := ⟨hr', hd', rfl, rfl, hq', hp ▸ hc⟩
      exact hback.endCheck (hp ▸ ho) true
    · exact .of_beginClearing hr' hd' hq' (hp ▸ hc) (hp ▸ hdev) (hp ▸ ho) fun m hm => hlost m (List.mem_cons_of_mem _ hm)
  · exact h


/-! ## Frames that arrive -/

theorem WorkSound.setActive {s : State} (h : WorkSound s) (ha : Awake s) : WorkSound (s.setDevice .active) := by
  obtain ⟨released, hdev, oscillator, work, serving⟩ := ha
  exact Awake.workSound ⟨released, .inl rfl, oscillator, work, serving⟩
    (h.not_retention (by rcases hdev with hd | hd <;> simp [hd])) h.banner.1 (fun hh => hh.elim h.banner.2 h.clearPass)
    h.decoder h.job

theorem abandonPass_of_pass {s : State} {n : Nat} (h : s.digest.work = .pass n) :
    s.abandonPass = (s.setWork .idle).dropDozeDigests := by
  unfold State.abandonPass
  rw [h]

theorem abandonPass_of_none {s : State} (h : ∀ n, s.digest.work ≠ .pass n) : s.abandonPass = s := by
  unfold State.abandonPass
  split
  next n hn => exact absurd hn (h n)
  all_goals rfl

/-- A frame admitted in ENTERING: a pass is abandoned, and the device is ACTIVE again (R102, R167). -/
theorem WorkSound.abortDoze {s t : State} (h : WorkSound s) (hr : s.resetLine = false)
    (hdev : s.power.device = .entering) (hrt : t.resetLine = s.resetLine) (hdig : t.digest = s.digest)
    (hpow : t.power = s.power) (heng : t.engine = s.engine) (hs : t.dec.state = s.dec.state) {more : List RxFrame}
    (hf : t.rxq.frames = s.rxq.frames ++ more) : WorkSound t.abortDoze := by
  suffices hactive : WorkSound (t.abandonPass.setDevice .active) by
    unfold State.abortDoze
    exact hactive.congr
  by_cases hpass : ∃ n, s.digest.work = .pass n
  · obtain ⟨n, hn⟩ := hpass
    obtain ⟨-, hd, -, hfree, -⟩ := h.pass n hn
    have hq := h.request_none (by simp [hn])
    obtain ⟨released, -, holder, job, -, cursor⟩ := h.still hr hd hfree hq
    rw [abandonPass_of_pass (hdig ▸ hn)]
    refine AtRest.workSound ⟨⟨hrt.trans released, .inl rfl, ?_, .inl rfl, ?_⟩, ?_, ?_, ?_⟩
    · simpa [State.dropDozeDigests, hpow] using h.oscillator_none (by simp [hdev])
    · simp [State.dropDozeDigests, hdig, hq]
    · simpa [State.dropDozeDigests, heng] using holder
    · simpa [State.dropDozeDigests, heng] using job
    · simpa [State.dropDozeDigests, hpow] using cursor
  · push Not at hpass
    have ht : WorkSound t := h.joined ⟨hrt, by simp [hdig], by simp [hpow], by simp [heng]⟩ hs hf
      fun n hn => absurd hn (hpass n)
    have hpass' : ∀ n, t.digest.work ≠ .pass n := hdig ▸ hpass
    rw [abandonPass_of_none hpass']
    exact ht.setActive (ht.awake (hrt.trans hr) (.inr (hpow ▸ hdev)) hpass')

theorem WorkSound.admitFrame {s : State} (h : WorkSound s) (hr : s.resetLine = false) (f : RxFrame) :
    WorkSound (s.admitFrame f) := by
  have hf : (State.flowAtAdmission { s with rxq := { s.rxq with frames := s.rxq.frames ++ [f] } }).rxq.frames =
      s.rxq.frames ++ [f] := by simp
  have hjoined (hd : s.power.device ≠ .entering) :
      WorkSound (State.flowAtAdmission { s with rxq := { s.rxq with frames := s.rxq.frames ++ [f] } }) :=
    h.joined {} (by simp) hf fun n hn => absurd (h.pass n hn).1 hd
  unfold State.admitFrame
  dsimp only
  split
  next hd => exact (hjoined (by simp [hd])).wake
  next hd => exact h.abortDoze hr hd (by simp) (by simp) (by simp) (by simp) (by simp) hf
  next hd => exact hjoined (by simp [hd])
  next hd => exact hjoined (by simp [hd])

theorem WorkSound.admission {s : State} (h : WorkSound s) (hr : s.resetLine = false) (f : RxFrame) :
    WorkSound (s.admission f) := by
  unfold State.admission
  split
  · exact h.congr
  · exact h.admitFrame hr f

theorem WorkSound.keepFrame {s : State} (h : WorkSound s) (hr : s.resetLine = false) (kind flags sequence : Byte)
    (payload : List Byte) : WorkSound (s.keepFrame kind flags sequence payload) := by
  have hexpected : WorkSound { s with link := { s.link with expected := some (sequence + 1) } } := h.congr
  unfold State.keepFrame
  dsimp only
  split
  · exact hexpected.admission hr _
  · exact hexpected.congr

theorem WorkSound.classify {s : State} (h : WorkSound s) (hr : s.resetLine = false) (kind flags sequence : Byte)
    (payload : List Byte) : WorkSound (s.classify kind flags sequence payload) := by
  unfold State.classify
  split
  · exact h.keepFrame hr _ _ _ _
  · dsimp only
    split
    · exact h.keepFrame hr _ _ _ _
    · split
      · have hgap (k : Nat) : WorkSound ((s.count .gapFrames k).setFlag .gap) := h.congr
        exact (hgap _).keepFrame (by simpa using hr) _ _ _ _
      · exact h.congr

theorem WorkSound.dataSymbol {s t : State} (h : WorkSound s) {b : Byte} (hx : execDataSymbol b s = .next t) :
    WorkSound t := by
  refine onEvent_keeps hx h fun hr _ => ?_
  split
  · exact h
  next stored _ =>
    dsimp only
    split
    · exact h.congr
    · split
      · exact h.congr
      · split
        · exact h.congr
        · unfold State.endFrame
          dsimp only
          split
          · have hgood : WorkSound (s.setAssembly .waiting).goodFrame := h.congr
            exact hgood.classify (by simpa using hr) _ _ _ _
          · exact h.congr

/-! ## Keys, the reset line and the clear pass -/

theorem WorkSound.keyScan {s t : State} (h : WorkSound s) {raw : BitVec 128} (hx : execKeyScan raw s = .next t) :
    WorkSound t := by
  refine onEvent_keeps hx h fun _ _ => ?_
  dsimp only
  split
  · exact h.congr
  · refine List.foldlRecOn (motive := WorkSound) _ _ ?_ fun u hu p _ => ?_
    · refine List.foldlRecOn (motive := WorkSound) _ _ h.congr fun u hu p _ => hu.congr
    · unfold State.processMake
      dsimp only
      refine WorkSound.wake ?_
      split
      · exact hu
      · split <;> exact hu.congr

theorem WorkSound.resetAssert {s t : State} (hx : execResetAssert s = .next t) : WorkSound t := by
  injection hx with hx
  subst hx
  constructor <;> simp [State.reset, DigestUnit.atReset, Power.atReset, Decoder.atReset]

theorem WorkSound.resetRelease {s t : State} (h : WorkSound s) (hx : execResetRelease s = .next t) : WorkSound t := by
  injection hx with hx
  subst hx
  split
  next hr =>
    obtain ⟨hd, hfree, hw, hdev⟩ := h.held hr
    have hq := h.request_none (by simp [hw])
    refine Awake.workSound_of_clearPass ⟨rfl, .inl hdev, h.oscillator_none (by simp [hdev]), .inl hw, ?_⟩ hd rfl ?_
      (h.cursor_none (by simp [hfree]))
    · simp [hw, hq]
    · by_contra hj
      exact (h.job (Option.isSome_iff_ne_none.mpr hj)).1 hfree
  · exact h

theorem WorkSound.clearPassEnd {s t : State} (h : WorkSound s) (hx : execClearPassEnd s = .next t) : WorkSound t := by
  refine onEvent_keeps hx h fun hr hholder => ?_
  have hc : s.engine.holder = .clearPass := by simpa using hholder
  have hawake : Awake (s.clearUpTo storePixels) := (h.awake_of_busy (by simp [hc]) (by simp [hc])).congr
  obtain ⟨released, device, oscillator, work, serving⟩ := hawake
  exact AtRest.workSound ⟨⟨released, device, oscillator, work, serving⟩, rfl, rfl,
    by simpa using h.cursor_none (by simp [hc])⟩

end Sys2Proof.Machine

namespace Sys2Proof.Machine

set_option Elab.async false

/-! # The blocks agree after every command -/

theorem WorkSound.exec {c : Instr} {s t : State} (h : WorkSound s) (hx : exec c s = .next t) : WorkSound t := by
  cases c with
  | resetAssert => exact .resetAssert hx
  | resetRelease => exact h.resetRelease hx
  | clearPassEnd => exact h.clearPassEnd hx
  | presenceContactChange =>
    injection hx with hx; subst hx; split <;> exact h.congr
  | presenceClosed =>
    rw [Machine.exec] at hx
    exact onEvent_keeps hx h fun _ _ => WorkSound.wake h.congr
  | presenceOpen | startSymbol | silenceTimeout | bannerDelayExpiry | flowSymbolSend | keysFrameStart
  | noticeFrameStart =>
    rw [Machine.exec] at hx
    exact onEvent_keeps hx h fun _ _ => h.congr
  | laneLockGained | upstreamFrameEnd =>
    rw [Machine.exec] at hx
    exact live_keeps hx h fun _ => h.congr
  | laneLockLost =>
    rw [Machine.exec] at hx
    refine onEvent_keeps hx h fun _ _ => ?_
    dsimp only
    split <;> exact h.congr
  | dataSymbol b => exact h.dataSymbol hx
  | frameTake => exact h.frameTake hx
  | slotGranted => exact h.slotGranted hx
  | unknownRecord =>
    rw [Machine.exec] at hx
    refine live_keeps hx h fun _ => ?_
    split
    next f r hr =>
      split
      · exact h
      next hk => exact (h.atRest_of_record hr (.inr (by simp_all))).congr.workSound
    · exact h
  | brokenRecord =>
    rw [Machine.exec] at hx
    refine onEvent_keeps hx h fun _ hw => ?_
    split
    next f hbroken =>
      have hrest : AtRest s := by
        refine h.atRest_of_frame (fun hd => by simp [State.isWalking, hd] at hw) fun hdec => ?_
        obtain ⟨-, f', r, hr, -⟩ := h.decoder hdec
        simp [State.record?, hw, hbroken] at hr
      exact hrest.congr.workSound
    all_goals exact h
  | fill | clear | glyph | planes | move | keymove =>
    rw [Machine.exec] at hx
    exact live_keeps hx h fun _ => h.takeDraw _
  | drawComplete => exact h.drawComplete hx
  | loadPane =>
    rw [Machine.exec] at hx
    exact live_keeps hx h fun _ => h.takeControl (by decide) fun hrest r => by
      have hloaded : AtRest (s.modifyPane (headByte r 0) fun p => p.loaded (headByte r 0) r) := hrest.congr
      unfold loadPaneEffect
      exact hloaded.congr { digest := forgetPane_goesOn _ _ }
  | reset =>
    rw [Machine.exec] at hx
    exact live_keeps hx h fun _ => h.takeControl (by decide) fun hrest _ => hrest.softReset
  | loadPen | loadPalette | loadShade | loadKeymap | loadBanner | setBanner | backlight | lamps | setKeys | setNotice
  | clearCounts =>
    rw [Machine.exec] at hx
    exact live_keeps hx h fun _ => h.takeControl (by decide) fun hrest _ =>
      hrest.congr { resetLine := rfl, digest := .refl _, power := rfl, engine := rfl }
  | setView =>
    rw [Machine.exec] at hx
    refine live_keeps hx h fun _ => h.takeControl (by decide) fun hrest _ => ?_
    unfold setViewEffect
    split <;> exact hrest.congr
  | setLink =>
    rw [Machine.exec] at hx
    exact live_keeps hx h fun _ => h.takeControl (by decide) fun hrest _ => hrest.setLink _
  | setOutage =>
    rw [Machine.exec] at hx
    exact live_keeps hx h fun _ => h.takeControl (by decide) fun hrest _ => hrest.setOutage _ _
  | doze =>
    rw [Machine.exec] at hx
    refine live_keeps hx h fun _ => h.takeControl (by decide) fun hrest _ => ?_
    split
    · exact hrest.enterEntering
    · exact hrest
  | panelStart | panelStop | panelFull | panelPartial | panelIdleOn | panelIdleOff | panelShow | panelBlank =>
    rw [Machine.exec] at hx
    exact live_keeps hx h fun _ => h.takePanel fun hrest _ => hrest.congr
  | askCell | askTable | askId =>
    rw [Machine.exec] at hx
    exact live_keeps hx h fun _ => h.takeAsk (by decide) fun _ hu _ _ _ => hu.answerWith _ _ _ _ _
  | askStatus =>
    rw [Machine.exec] at hx
    exact live_keeps hx h fun _ => h.takeAsk (by decide) fun _ hu _ _ _ => hu.answerStatus _ _ _
  | askDigest =>
    rw [Machine.exec] at hx
    exact live_keeps hx h fun _ => h.takeAsk (by decide) fun _ hu _ _ _ => hu.answerDigest _ _ _
  | digestRunEnd =>
    rw [Machine.exec] at hx
    refine live_keeps hx h fun _ => ?_
    split
    next n hrun =>
      have hstored : WorkSound { s.setDigestState n (.valid (paneDigest s.store (s.panes.get n))) with
          digest := { s.digest with running := none } } := h.congr { digest := .inl ⟨rfl, rfl⟩ }
      exact hstored.congr { digest := digestGoOn_goesOn _ }
    · exact h
  | replyFrameStart =>
    rw [Machine.exec] at hx
    refine onEvent_keeps hx h fun _ _ => ?_
    (repeat' split) <;> exact h.congr
  | recomputeStep =>
    rw [Machine.exec] at hx
    refine live_keeps hx h fun _ => ?_
    split <;> exact h.congr
  | retentionPassStart => exact h.retentionPassStart hx
  | retentionPassPaneDone => exact h.retentionPassPaneDone hx
  | oscillatorWaitEnd => exact h.oscillatorWaitEnd hx
  | retentionCheckPaneDone => exact h.retentionCheckPaneDone hx
  | retentionClearPaneDone => exact h.retentionClearPaneDone hx
  | dozeTimerExpiry =>
    rw [Machine.exec] at hx
    exact onEvent_keeps hx h fun hr hd => h.enterEntering hr ((dozeExpired_iff s).mp hd).1
  | bannerGrant => exact h.bannerGrant hx
  | bannerRecordDone => exact h.bannerRecordDone hx
  | powerUpEnd | powerDownEnd =>
    rw [Machine.exec] at hx
    exact onEvent_keeps hx h fun _ _ => h.congr
  | frameEnd =>
    rw [Machine.exec] at hx
    refine onEvent_keeps hx h fun _ _ => ?_
    have hlatched : WorkSound { s with scan := s.scan.frameEnd, panel := s.panel.latchModes } := h.congr
    exact hlatched.panelAtFrameEnd.releaseSync
  | keyScan raw => exact h.keyScan hx
  | dozePixelLoss x y v =>
    rw [Machine.exec, execDozePixelLoss] at hx
    split at hx
    · exact onEvent_keeps hx h fun _ _ => h.congr
    · cases hx


theorem WorkSound.step {s t : State} (h : WorkSound s) (hx : step s = .next t) : WorkSound t :=
  step_keeps (fun _ _ h => h.congr)
    (fun _ h => idle_keeps (fun _ _ h => h.congr) (fun _ h => h.congr) h) (fun _ _ _ h hx => h.exec hx) h hx

end Sys2Proof.Machine

namespace Sys2Proof.Machine

set_option Elab.async false

/-! # What every step keeps of the clear pass (R44, R72, R76) -/

/-- The clear pass is as far as it was: no pixel is written while it holds the engine. -/
theorem ClearSound.congr {s t : State} (h : ClearSound s) (hstore : t.store = s.store := by simp)
    (hcleared : t.engine.cleared = s.engine.cleared := by simp)
    (hholder : t.engine.holder = s.engine.holder := by simp) : ClearSound t := by
  obtain ⟨bound, away, blank⟩ := h
  exact ⟨hcleared ▸ bound, by rwa [hholder, hcleared], by rwa [hholder, hstore, hcleared]⟩

/-- Outside the clear pass any pixel may be written, and the engine change hands. -/
theorem ClearSound.of_away {s t : State} (h : ClearSound s) (hs : s.engine.holder ≠ .clearPass)
    (ht : t.engine.holder ≠ .clearPass) (hcleared : t.engine.cleared = s.engine.cleared := by simp) : ClearSound t where
  bound := hcleared ▸ h.bound
  away := fun _ => hcleared.trans (h.away hs)
  blank := fun hc => absurd hc ht

theorem ClearSound.takeControl {s : State} (h : ClearSound s) {code : Byte} {check : Record → Option Reason}
    {effect : Record → State → State} (heffect : ∀ r, ClearSound (effect r s)) :
    ClearSound (takeControl code check effect s) :=
  takeControl_keeps h (fun _ _ _ _ _ => h.congr) fun _ r _ _ _ _ => (heffect r).congr

theorem ClearSound.takePanel {s : State} (h : ClearSound s) {a : PanelAction} {effect : Record → State → State}
    (heffect : ∀ r, ClearSound (effect r s)) : ClearSound (takePanel a effect s) :=
  takePanel_keeps h (h.takeControl heffect)

theorem ClearSound.takeAsk {s : State} (h : ClearSound s) {code : Byte}
    {answer : Nat → RxFrame → Record → State → State}
    (hanswer : ∀ u : State, ClearSound u → ∀ n f r, ClearSound (answer n f r u)) : ClearSound (takeAsk code answer s) := by
  rcases takeAsk_cases code answer s with ht | ⟨f, r, -, -, ⟨-, ht⟩ | ⟨-, n, -, ht⟩ | ⟨-, -, c, -, ht⟩⟩ <;> rw [ht]
  · exact h
  · exact h.congr
  · have hslot : ClearSound (s.setSlot n (.reserved r.kind r.tag)) := h.congr
    exact (hanswer _ hslot n f r).congr
  · exact h.congr

theorem ClearSound.answerWith {s : State} (h : ClearSound s) (check : Record → Option Reason)
    (body : Record → State → List Word) (n : Nat) (f : RxFrame) (r : Record) :
    ClearSound (answerWith check body n f r s) := by
  unfold Machine.answerWith
  split <;> exact h.congr

theorem ClearSound.takeDraw {s : State} (h : ClearSound s) (kind : DrawKind) : ClearSound (takeDraw kind s) := by
  rcases takeDraw_cases kind s with ht | ⟨f, r, -, -, ⟨-, ht⟩ | ⟨-, hfree, o, -, ⟨job, cut, -, ht⟩ | ⟨-, ht⟩⟩⟩ <;> rw [ht]
  · exact h
  · exact h.congr
  · exact h.of_away (by simp [hfree]) (by simp)
  · exact h.congr

/-- The clear pass goes on, short of the last pixel: what it has come past is left out of the store's list (R44). -/
theorem ClearSound.clearUpTo {s : State} (h : ClearSound s) (hc : s.engine.holder = .clearPass) {hi : Nat}
    (hhi : hi < storePixels) : ClearSound (s.clearUpTo hi) := by
  have hstore : (s.clearUpTo hi).store = clearCells s.store s.engine.cleared hi := by simp [State.clearUpTo]
  have hengine : (s.clearUpTo hi).engine = { s.engine with cleared := hi } := by simp [State.clearUpTo]
  refine ⟨hengine ▸ hhi, fun ha => absurd (hengine ▸ hc) ha, fun _ c hmem => ?_⟩
  rw [hengine]
  rw [hstore, clearCells, List.mem_filter] at hmem
  obtain ⟨hlisted, hkept⟩ := hmem
  have hpast := h.blank hc c hlisted
  simp only [Bool.or_eq_true, decide_eq_true_eq] at hkept
  dsimp only
  omega

theorem storePixels_pos : 0 < storePixels := by decide

theorem ClearSound.engineRuns {s : State} (h : ClearSound s) : ClearSound s.engineRuns := by
  unfold State.engineRuns
  dsimp only
  split
  next hc =>
    have hshort : min (storePixels - 1) (s.engine.cleared + Config.engineProgress s.turn) < storePixels :=
      Nat.lt_of_le_of_lt (Nat.min_le_left _ _) (Nat.sub_lt storePixels_pos Nat.one_pos)
    exact (h.clearUpTo hc hshort).congr
  next hc =>
    split
    · exact h
    · exact h.of_away hc hc

theorem ClearSound.drawComplete {s t : State} (h : ClearSound s) (hx : execDrawComplete s = .next t) : ClearSound t := by
  refine onEvent_keeps hx h fun _ hholder => ?_
  have hdec : s.engine.holder = .decoder := by simpa using hholder
  split
  next job f r _ _ => exact h.of_away (by simp [hdec]) (by simp)
  · exact h

theorem ClearSound.bannerRead {s : State} (h : ClearSound s) (hs : s.engine.holder ≠ .clearPass) (cursor : Nat) :
    ClearSound (s.bannerRead cursor) := by
  unfold State.bannerRead
  split
  · exact h.of_away hs (by simp [State.endPlay]) (by simp [State.endPlay])
  · split
    · exact h.of_away hs (by simp [State.endPlay]) (by simp [State.endPlay])
    · exact h.of_away hs (by simp)

theorem ClearSound.bannerRecordDone {s t : State} (h : ClearSound s) (hx : execBannerRecordDone s = .next t) :
    ClearSound t := by
  refine onEvent_keeps hx h fun _ hholder => ?_
  have hb : s.engine.holder = .banner := by simpa using hholder
  split
  next c _ =>
    have hdone : ∀ u : State, ClearSound u → u.engine.holder = .banner → ClearSound (match bannerRecord s.power c with
        | some (_, r) => u.bannerRead (c + r.extent)
        | none => u.endPlay) := fun u hu hh => by
      split
      · exact hu.bannerRead (by simp [hh]) _
      · exact hu.of_away (by simp [hh]) (by simp [State.endPlay]) (by simp [State.endPlay])
    dsimp only
    refine hdone _ ?_ ?_ <;> split
    · exact h.of_away (by simp [hb]) (by simp [hb])
    · exact h
    · simpa using hb
    · exact hb
  · exact h

theorem ClearSound.retentionPassPaneDone {s t : State} (h : ClearSound s)
    (hx : execRetentionPassPaneDone s = .next t) : ClearSound t := by
  refine live_keeps hx h fun _ => ?_
  split
  · dsimp only
    split <;> exact h.congr
  all_goals exact h

theorem ClearSound.checkMade {s : State} (h : ClearSound s) (hs : s.engine.holder ≠ .clearPass) (lost : List Nat) :
    ClearSound (s.checkMade lost) := by
  cases lost with
  | nil => exact ClearSound.congr (t := s.endCheck false) h
  | cons n rest =>
    exact h.of_away (t := s.beginClearing n rest) hs (by simp [State.beginClearing]) (by simp [State.beginClearing])

theorem ClearSound.retentionCheckPaneDone {s t : State} (h : ClearSound s)
    (hx : execRetentionCheckPaneDone s = .next t) : ClearSound t := by
  refine onEvent_keeps hx h fun _ hholder => ?_
  have hfree : s.engine.holder = .free := by simpa using hholder
  split
  next n lost _ =>
    have h1 : ∀ b d, ClearSound (if b = true then s.setDigestState n d else s) ∧
        (if b = true then s.setDigestState n d else s).engine.holder ≠ .clearPass := by
      intro b d
      split
      · exact ⟨h.congr, by simp [hfree]⟩
      · exact ⟨h, by simp [hfree]⟩
    dsimp only
    split
    · exact (h1 _ _).1.congr rfl rfl rfl
    · exact (h1 _ _).1.checkMade (h1 _ _).2 _
  all_goals exact h

theorem ClearSound.retentionClearPaneDone {s t : State} (h : ClearSound s)
    (hx : execRetentionClearPaneDone s = .next t) : ClearSound t := by
  refine onEvent_keeps hx h fun _ hholder => ?_
  have hret : s.engine.holder = .retention := by simpa using hholder
  split
  · dsimp only
    split <;> exact h.of_away (by simp [hret]) (by simp [State.beginClearing]) (by simp [State.beginClearing])
  · exact h

theorem ClearSound.dataSymbol {s t : State} (h : ClearSound s) {b : Byte} (hx : execDataSymbol b s = .next t) :
    ClearSound t := by
  refine onEvent_keeps hx h fun _ _ => ?_
  dsimp only
  (repeat' split) <;> exact h.congr

theorem ClearSound.setOutage {s t : State} (h : ClearSound s) (hx : execSetOutage s = .next t) : ClearSound t := by
  refine live_keeps hx h fun _ => h.takeControl fun r => ?_
  dsimp only
  (repeat' split) <;> exact h.congr

theorem ClearSound.keyScan {s t : State} (h : ClearSound s) {raw : BitVec 128} (hx : execKeyScan raw s = .next t) :
    ClearSound t := by
  refine onEvent_keeps hx h fun _ _ => ?_
  dsimp only
  split
  · exact h.congr
  · exact List.foldlRecOn (motive := ClearSound) _ _ (List.foldlRecOn (motive := ClearSound) _ _ h.congr
      fun _ hu _ _ => hu.congr) fun _ hu _ _ => hu.congr

theorem ClearSound.dozePixelLoss {s t : State} (h : ClearSound s) (hw : WorkSound s) {x y : Nat} {v : Byte}
    (hx : execDozePixelLoss x y v s = .next t) : ClearSound t := by
  unfold execDozePixelLoss at hx
  split at hx
  · refine onEvent_keeps hx h fun _ hdoze => ?_
    have hfree := (hw.doze (by simpa using hdoze)).1
    exact h.of_away (by simp [hfree]) (by simp [hfree])
  · cases hx

theorem ClearSound.exec {c : Instr} {s t : State} (h : ClearSound s) (hw : WorkSound s) (hx : exec c s = .next t) :
    ClearSound t := by
  cases c with
  | resetAssert =>
    injection hx with hx
    subst hx
    exact ⟨storePixels_pos, fun _ => rfl, fun hc => nomatch hc⟩
  | resetRelease =>
    injection hx with hx
    subst hx
    split
    · exact ⟨storePixels_pos, fun _ => rfl, fun _ _ _ => Nat.zero_le _⟩
    · exact h
  | clearPassEnd =>
    rw [Machine.exec] at hx
    exact onEvent_keeps hx h fun _ _ => ⟨storePixels_pos, fun _ => rfl, fun hc => nomatch hc⟩
  | presenceContactChange =>
    injection hx with hx; subst hx; split <;> exact h.congr
  | presenceClosed | presenceOpen | startSymbol | silenceTimeout | bannerDelayExpiry | flowSymbolSend | keysFrameStart
  | noticeFrameStart | dozeTimerExpiry | powerUpEnd | powerDownEnd | frameEnd =>
    rw [Machine.exec] at hx
    exact onEvent_keeps hx h fun _ _ => h.congr
  | laneLockGained | upstreamFrameEnd =>
    rw [Machine.exec] at hx
    exact live_keeps hx h fun _ => h.congr
  | laneLockLost =>
    rw [Machine.exec] at hx
    refine onEvent_keeps hx h fun _ _ => ?_
    dsimp only
    split <;> exact h.congr
  | dataSymbol b => exact h.dataSymbol hx
  | frameTake | brokenRecord | replyFrameStart | retentionPassStart =>
    rw [Machine.exec] at hx
    refine onEvent_keeps hx h fun _ _ => ?_
    (repeat' split) <;> exact h.congr
  | slotGranted | unknownRecord | digestRunEnd | recomputeStep =>
    rw [Machine.exec] at hx
    refine live_keeps hx h fun _ => ?_
    (repeat' split) <;> exact h.congr
  | fill | clear | glyph | planes | move | keymove =>
    rw [Machine.exec] at hx
    exact live_keeps hx h fun _ => h.takeDraw _
  | drawComplete => exact h.drawComplete hx
  | loadPane =>
    rw [Machine.exec] at hx
    refine live_keeps hx h fun _ => h.takeControl fun r => ?_
    unfold loadPaneEffect
    exact h.congr
  | reset =>
    rw [Machine.exec] at hx
    refine live_keeps hx h fun _ => h.takeControl fun _ => ?_
    rw [softReset_eq]
    exact h.congr
  | loadPen | loadPalette | loadShade | loadKeymap | loadBanner | setBanner | backlight | lamps | setKeys | setNotice
  | clearCounts =>
    rw [Machine.exec] at hx
    exact live_keeps hx h fun _ => h.takeControl fun _ => h.congr rfl rfl rfl
  | setView =>
    rw [Machine.exec] at hx
    refine live_keeps hx h fun _ => h.takeControl fun _ => ?_
    unfold setViewEffect
    split <;> exact h.congr
  | setLink =>
    rw [Machine.exec] at hx
    refine live_keeps hx h fun _ => h.takeControl fun _ => ?_
    dsimp only
    split <;> exact h.congr
  | doze =>
    rw [Machine.exec] at hx
    refine live_keeps hx h fun _ => h.takeControl fun _ => ?_
    split <;> exact h.congr
  | setOutage => exact h.setOutage hx
  | panelStart | panelStop | panelFull | panelPartial | panelIdleOn | panelIdleOff | panelShow | panelBlank =>
    rw [Machine.exec] at hx
    exact live_keeps hx h fun _ => h.takePanel fun _ => h.congr
  | askCell | askTable | askId =>
    rw [Machine.exec] at hx
    exact live_keeps hx h fun _ => h.takeAsk fun _ hu _ _ _ => hu.answerWith _ _ _ _ _
  | askStatus | askDigest =>
    rw [Machine.exec] at hx
    exact live_keeps hx h fun _ => h.takeAsk fun _ hu _ _ _ => hu.congr
  | retentionPassPaneDone => exact h.retentionPassPaneDone hx
  | oscillatorWaitEnd =>
    rw [Machine.exec] at hx
    refine onEvent_keeps hx h fun _ _ => ?_
    dsimp only
    split <;> exact h.congr
  | retentionCheckPaneDone => exact h.retentionCheckPaneDone hx
  | retentionClearPaneDone => exact h.retentionClearPaneDone hx
  | bannerGrant =>
    rw [Machine.exec] at hx
    refine onEvent_keeps hx h fun _ hdue => ?_
    obtain ⟨-, hfree, -⟩ := (bannerGrantDue_iff s).mp hdue
    dsimp only
    split
    · exact h.congr
    · exact bannerRead h.congr (by simp [hfree]) 0
  | bannerRecordDone => exact h.bannerRecordDone hx
  | keyScan raw => exact h.keyScan hx
  | dozePixelLoss x y v => exact h.dozePixelLoss hw hx

/-- Settles O55. The clear pass rests on the model's own order of its pixels (notes/assumptions/24.md), on a last pixel
that is always left to the end of the pass (5.md), and on an engine that is FREE while the reset line is held (13.md). -/
theorem stepsKeepWorkSound : Obligations.StepsKeepWorkSound := by
  refine ⟨fun _ _ h hx => h.step hx, fun s t hw hc hx => ?_⟩
  have hboth : WorkSound t ∧ ClearSound t :=
    step_keeps (P := fun u => WorkSound u ∧ ClearSound u) (fun _ _ h => ⟨h.1.congr, h.2.congr⟩)
      (fun _ h => idle_keeps (P := fun u => WorkSound u ∧ ClearSound u) (fun _ _ h => ⟨h.1.congr, h.2.congr⟩)
        (fun _ h => ⟨h.1.congr, h.2.engineRuns.congr⟩) h)
      (fun _ _ _ h hx => ⟨h.1.exec hx, h.2.exec h.1 hx⟩) ⟨hw, hc⟩ hx
  exact hboth.2

end Sys2Proof.Machine

namespace Sys2Proof.Machine

open Sys2Proof.Statements

set_option Elab.async false

/-! # Pixel loss in DOZE (R43) -/

/-- Settles O41. Outside DOZE the step does not occur, and a pixel the store does not have is a fault: the model's
choices (notes/assumptions/7.md and 22.md). -/
theorem dozePixelLossChangesOnePixel : Obligations.DozePixelLossChangesOnePixel := by
  refine ⟨fun s x y v hwf hr hd hx hy => ?_, fun s x y v hd hx hy => ?_, fun s x y v hout => ?_⟩
  · have hexec : exec (.dozePixelLoss x y v) s = .next (s.writePixel x y v) := by
      rw [exec, execDozePixelLoss, if_pos (by simp [pixelExists, hx, hy])]
      exact onEvent_occurs hr (by simp [hd])
    refine ⟨_, hexec, rfl, ?_, fun x' y' hx' _ hne => ?_⟩
    · rw [State.pixel_writePixel hwf, if_pos rfl]
    · rw [State.pixel_writePixel hwf, if_neg fun ha => hne (pixelAddress_inj hx' hx ha)]
  · rw [exec, execDozePixelLoss, if_pos (by simp [pixelExists, hx, hy]), onEvent_next, if_neg (by simp [hd])]
  · rw [exec, execDozePixelLoss, if_neg]
    simp only [pixelExists, Bool.and_eq_true, decide_eq_true_eq]
    omega

/-! # What a touch does to the panes (R54) -/

theorem contains_iff (p : Pane) (x y : Nat) : p.valid = true ∧ p.contains x y = true ↔
    p.valid = true ∧ p.left ≤ x ∧ x < p.left + p.width ∧ p.top ≤ y ∧ y < p.top + p.height := by
  simp [Pane.contains, and_assoc]

theorem touchedBy_of_hit {hit : Pane → Bool} {p : Pane} (hv : p.valid = true) (hh : hit p = true) :
    p.touchedBy hit = { p with digest := p.digest.touched } := by
  simp [Pane.touchedBy, hv, hh]

theorem touchedBy_of_miss {hit : Pane → Bool} {p : Pane} (h : ¬ (p.valid = true ∧ hit p = true)) :
    p.touchedBy hit = p := by
  simpa [Pane.touchedBy] using fun hv hh => absurd ⟨hv, hh⟩ h

/-- Settles O30. -/
theorem touchChangesDigestStates : Obligations.TouchChangesDigestStates := by
  intro s x y
  refine ⟨s.panes.mapIdx fun _ p => p.touchedBy fun q => q.contains x y, fun n hn => ⟨fun hin => ?_, fun hout => ?_⟩,
    fun n hrun hn hv hc => ?_, fun hnone => ?_⟩
  · obtain ⟨hv, hc⟩ := (contains_iff _ _ _).mpr hin
    rw [Table.get_mapIdx _ _ hn, touchedBy_of_hit hv hc]
    cases (s.panes.get n).digest <;> rfl
  · rw [Table.get_mapIdx _ _ hn, touchedBy_of_miss]
    exact fun h => hout ((contains_iff _ _ _).mp h)
  · have hhit : hitsRun s (fun q => q.contains x y) = true := by simp [hitsRun, hrun, hv, hc]
    rw [State.touch, State.touchWhere, if_pos hhit]
    rfl
  · have hmiss : ¬ hitsRun s (fun q => q.contains x y) = true := by
      unfold hitsRun
      split
      next n hrun => rcases (hnone n hrun).2 with h | h <;> simp [h]
      · simp
    rw [State.touch, State.touchWhere, if_neg hmiss]

/-! # LOAD_PANE (R47 to R50) -/

/-- What an accepted LOAD_PANE writes, the digest state of R50 with it. -/
def loadedEntry (p : Pane) (n : Nat) (r : Record) : Pane := { p.loaded n r with digest := .none }

theorem loadedEntry_removed {p : Pane} {n : Nat} {r : Record} (h : byteAt r 0 1 = 0) :
    loadedEntry p n r = { p with valid := false, digest := .none, lost := false } := by
  have hv : headByte r 1 = 0 := h
  simp [loadedEntry, Pane.loaded, hv]

theorem loadedEntry_written {p : Pane} {n : Nat} {r : Record} (h : byteAt r 0 1 = 1) :
    loadedEntry p n r =
      { p with
        valid := true
        left := if n = 0 then p.left else halfAt r 1 0
        top := if n = 0 then p.top else halfAt r 1 1
        width := if n = 0 then p.width else halfAt r 2 0
        height := if n = 0 then p.height else halfAt r 2 1
        access := if byteAt r 0 2 = 1 then .shut else .opened
        shadeSet := byteAt r 0 3
        fill := byteOf (wordAt r.body 3) 0
        digest := .none
        lost := false } := by
  have hv : headByte r 1 = 1 := h
  unfold loadedEntry Pane.loaded
  rw [if_neg (by simp [hv])]
  by_cases hn : n = 0
  · simp only [hn, if_true]
    rfl
  · simp only [hn, if_false]
    rfl

/-- The entry is written and its digest state is NONE, both in one write of the table. -/
theorem setDigestState_modifyPane (s : State) {n : Nat} (hn : n < 16) (f : Pane → Pane) (d : DigestState) :
    (s.modifyPane n f).setDigestState n d =
      { s with panes := s.panes.set n { f (s.panes.get n) with digest := d } } := by
  simp only [State.setDigestState, State.modifyPane, Table.modify, Table.set_set, Table.get_set_self _ _ hn]

/-- Settles O14. -/
theorem loadPaneWritesEntry : Obligations.LoadPaneWritesEntry := by
  rintro s f r n h rfl
  have hn : byteAt r 0 0 < 16 := by
    obtain ⟨-, -, hk, -, hfields⟩ := h
    simp only [fieldsInRange, hk, BitVec.reduceToNat, Bool.and_eq_true, decide_eq_true_eq] at hfields
    omega
  refine ⟨loadedEntry (s.panes.get (byteAt r 0 0)) (byteAt r 0 0) r, _, loadedEntry_removed, loadedEntry_written, rfl, ?_⟩
  rw [exec, execLoadPane, takeControl_of_accepted h _ (loadPaneCheck_eq (kind_of_accepted h))]
  congr 2
  unfold loadPaneEffect State.forgetPane
  have hset : (s.modifyPane (headByte r 0) fun p => p.loaded (headByte r 0) r).setDigestState (headByte r 0) .none =
      { s with panes := s.panes.set (byteAt r 0 0) (loadedEntry (s.panes.get (byteAt r 0 0)) (byteAt r 0 0) r) } :=
    setDigestState_modifyPane s hn _ _
  simp only [hset]
  rfl

end Sys2Proof.Machine

namespace Sys2Proof.Machine

open Sys2Proof.Statements

set_option Elab.async false

/-! # What the panel is sent (R52, R125 to R127) -/

/-- The claiming pane is the highest-numbered valid pane that contains the pixel (R52). -/
theorem claimingPane_eq {panes : Table Pane 16} {x y n : Nat} (hn : n < 16) (hv : (panes.get n).valid = true)
    (hc : (panes.get n).contains x y = true)
    (habove : ∀ m, n < m → m < 16 → ¬ ((panes.get m).valid = true ∧ (panes.get m).contains x y = true)) :
    claimingPane panes x y = n := by
  have hfind : (List.range 16).reverse.find? (fun n => (panes.get n).valid && (panes.get n).contains x y) = some n := by
    rw [List.find?_eq_some_iff_getElem]
    refine ⟨by simp [hv, hc], 15 - n, by simp; omega, by simp; omega, fun j hj => ?_⟩
    have hm := habove (15 - j) (by omega) (by omega)
    simp only [List.getElem_reverse, List.getElem_range, List.length_range, Bool.not_eq_true', Bool.and_eq_false_iff]
    simpa [imp_iff_or_not, or_comm] using hm
  rw [claimingPane, hfind]
  rfl

theorem isBlack_iff (s : State) (py : Nat) : isBlack s py = true ↔
    s.panel.state ≠ .running ∨ s.panel.display = .blank ∨ s.power.device = .doze ∨
      ∃ top bottom, s.panel.area = .band top bottom ∧ ¬ (top ≤ py ∧ py ≤ bottom) := by
  unfold isBlack
  cases s.panel.area with
  | full => simp [or_assoc]
  | band top bottom =>
    have houtside : (∃ t b, Area.band top bottom = .band t b ∧ ¬ (t ≤ py ∧ py ≤ b)) ↔ py < top ∨ bottom < py := by
      simp only [Area.band.injEq]
      refine ⟨?_, fun h => ⟨top, bottom, ⟨rfl, rfl⟩, by omega⟩⟩
      rintro ⟨t, b, ⟨rfl, rfl⟩, h⟩
      omega
    simp only [houtside, Bool.or_eq_true, decide_eq_true_eq, or_assoc]

theorem panelOutput_black {s : State} {py : Nat} (h : isBlack s py = true) (px : Nat) : panelOutput s px py = ⟨0, 0, 0⟩ := by
  rw [panelOutput, if_pos h]

theorem panelOutput_colour {s : State} {py : Nat} (h : ¬ isBlack s py = true) {px fx fy : Nat}
    (hf : (fx, fy) = shownPixel s.scan.active px py) : panelOutput s px py = pixelColour s fx fy := by
  rw [panelOutput, if_neg h, ← hf]

theorem pixelColour_eq {s : State} {fx fy n : Nat} (hn : claimingPane s.panes fx fy = n) :
    pixelColour s fx fy =
      let c := s.colour.shaded.get ((s.panes.get n).shadeSet * 256 + (s.pixel fx fy &&& s.scan.active.planeEnable).toNat)
      if s.panel.idleMode then
        ⟨if 32 ≤ c.red then 63 else 0, if 32 ≤ c.green then 63 else 0, if 32 ≤ c.blue then 63 else 0⟩
      else c := by
  rw [pixelColour, hn]
  rfl

/-! ## The order of a frame's positions (R127) -/

theorem rasterPosition_column_lt (k : Nat) : (rasterPosition k).1 < 1280 := Nat.mod_lt _ (by decide)

theorem rasterPosition_line_lt {k : Nat} (h : k < 1280 * 800) : (rasterPosition k).2 < 800 :=
  Nat.div_lt_of_lt_mul h

theorem rasterPosition_eq_iff {k px py : Nat} (hx : px < 1280) : rasterPosition k = (px, py) ↔ k = 1280 * py + px := by
  simp only [rasterPosition, Prod.mk.injEq]
  omega

theorem sentNext_idle {s : State} (h : s.panel.state.scanning = false) (k : Nat) : s.sentNext k = [] := by
  simp [State.sentNext, h]

theorem sentNext_scanning {s : State} (h : s.panel.state.scanning = true) (k : Nat) :
    s.sentNext k = (List.range' s.scan.scanned (min k (1280 * 800 - s.scan.scanned))).map
      (fun n => panelOutput s (rasterPosition n).1 (rasterPosition n).2) := by
  rw [State.sentNext, if_pos h]
  rfl

theorem scanPosition_none {s : State} (h : s.panel.state.scanning = false ∨ s.scan.scanned = 1280 * 800) :
    s.scanPosition = none := by
  rcases h with h | h <;> simp [State.scanPosition, panelPositions, h]

theorem scanPosition_some {s : State} (h : s.panel.state.scanning = true) (hs : s.scan.scanned < 1280 * 800) :
    s.scanPosition = some (rasterPosition s.scan.scanned) := by
  have hs' : s.scan.scanned < panelPositions := hs
  simp [State.scanPosition, h, hs']

/-- Settles O51. -/
theorem panelOutputAtPosition : Obligations.PanelOutputAtPosition := by
  refine ⟨fun s px py => ⟨fun h => ?_, ?_⟩, fun k px py hk => ?_, fun s => ⟨fun h => ?_, fun h hs => ?_, fun h hs => ?_⟩⟩
  · refine panelOutput_black ((isBlack_iff s py).mpr ?_) px
    rcases h with h | h | h
    · exact .inl h
    · exact .inr (.inl h)
    · exact .inr (.inr (.inr h))
  · rintro fx fy n c hdoze hrun hshow harea hf hn hv hc habove rfl
    have hlit : ¬ isBlack s py = true := by
      rw [isBlack_iff]
      rintro (h | h | h | ⟨top, bottom, hband, hout⟩)
      · exact h hrun
      · simp [hshow] at h
      · exact hdoze h
      · exact hout (harea top bottom hband)
    rw [panelOutput_colour hlit hf]
    exact pixelColour_eq (claimingPane_eq hn hv hc habove)
  · exact ⟨rasterPosition_column_lt k, rasterPosition_line_lt hk, fun hx _ => rasterPosition_eq_iff hx⟩
  · exact ⟨scanPosition_none (.inl h), sentNext_idle h⟩
  · exact ⟨scanPosition_none (.inr hs), fun k => by simp [sentNext_scanning h, hs]⟩
  · refine ⟨scanPosition_some h hs, fun k => ⟨by simp [sentNext_scanning h], fun n px py hn hin hpos => ?_⟩⟩
    have hlt : n < min k (1280 * 800 - s.scan.scanned) := by omega
    rw [sentNext_scanning h, List.getElem?_map, List.getElem?_range' hlt]
    simp [hpos]

end Sys2Proof.Machine

namespace Sys2Proof.Machine

open Sys2Proof.Statements

set_option Elab.async false

/-! # The examination of a draw record (R77 to R80, R88) -/

theorem copies_iff (k : DrawKind) : k.copies = true ↔ copiesPixels k := by cases k <;> simp [DrawKind.copies, copiesPixels]

/-- The kept offsets of the engine are those of the rules (R80, R88). -/
theorem mem_destinationOf_iff {k : DrawKind} {pane : Pane} {body : List Word} {i j : Nat} :
    (i, j) ∈ destinationOf k pane body ↔ kept k pane body i j := by
  rw [mem_destinationOf, mem_keptColumns, mem_keptRows, copies_iff, kept]
  by_cases hc : copiesPixels k
  · simp only [hc, true_imp_iff]
    omega
  · simp only [hc, false_imp_iff, and_true]
    omega

/-- No offset is kept: nothing is left of the rectangle (R80, R88). -/
theorem destinationOf_eq_nil {k : DrawKind} {pane : Pane} {body : List Word} (h : ∀ i j, ¬ kept k pane body i j) :
    destinationOf k pane body = [] :=
  List.eq_nil_iff_forall_not_mem.mpr fun _ ho => h _ _ (mem_destinationOf_iff.mp ho)

theorem popcount_eq (mask : Byte) : popcount mask = (List.range 8).countP (fun p => mask.getLsbD p) :=
  List.countP_eq_length_filter.symm

/-- The body length that the fixed part and the data words make is the one of R77. -/
theorem requiredWords_eq (k : DrawKind) (pen : Pen) (body : List Word) :
    k.fixedWords + dataWords k pen body = requiredWords k pen body := by
  cases k <;> simp [DrawKind.fixedWords, dataWords, requiredWords, rowWords, popcount_eq]

theorem fixedPart_iff (k : DrawKind) (body : List Word) :
    (if k.hasData then decide (3 ≤ body.length) else decide (body.length = k.fixedWords)) = true ↔
      fixedPartMatches k body := by
  cases k <;> simp [DrawKind.hasData, fixedPartMatches, carriesData, requiredWords, DrawKind.fixedWords] <;>
    exact decide_eq_true_iff

section

variable {k : DrawKind} {pens : Table Pen 32} {panes : Table Pane 16} {body : List Word}

theorem drawRefusal_fixedPart (h : ¬ fixedPartMatches k body) : drawRefusal k pens panes body = some .length := by
  rw [← fixedPart_iff] at h
  rw [drawRefusal, firstFailure, if_neg h]

theorem drawRefusal_range (h : fixedPartMatches k body) (hout : 15 < recPane body ∨ 31 < recPen body) :
    drawRefusal k pens panes body = some .range := by
  rw [← fixedPart_iff] at h
  have hrange : ¬ (decide (recPane body ≤ 15) && decide (recPen body ≤ 31)) = true := by
    simp only [Bool.and_eq_true, decide_eq_true_eq]
    omega
  rw [drawRefusal, firstFailure, if_pos h, firstFailure, if_neg hrange]

/-- Steps 3 and 4 of R78, with steps 1 and 2 passed. -/
theorem drawRefusal_inRange (h : fixedPartMatches k body) (hpane : recPane body ≤ 15) (hpen : recPen body ≤ 31) :
    drawRefusal k pens panes body =
      if (panes.get (recPane body)).valid = false then some .noPane
      else if body.length = requiredWords k (pens.get (recPen body)) body then none else some .length := by
  rw [← fixedPart_iff] at h
  have hrange : (decide (recPane body ≤ 15) && decide (recPen body ≤ 31)) = true := by simp [hpane, hpen]
  rw [drawRefusal, firstFailure, if_pos h, firstFailure, if_pos hrange, requiredWords_eq]
  cases (panes.get (recPane body)).valid <;> simp [firstFailure]

theorem examineDraw_refused {e : Reason} (h : drawRefusal k pens panes body = some e) :
    examineDraw k pens panes body = .refused e := by
  simp only [examineDraw, h]

theorem examineDraw_dropped (h : drawRefusal k pens panes body = none) (hshut : (panes.get (recPane body)).access = .shut) :
    examineDraw k pens panes body = .dropped := by
  simp only [examineDraw, h, if_pos hshut]

theorem examineDraw_emptySize (h : drawRefusal k pens panes body = none)
    (hopen : (panes.get (recPane body)).access = .opened) (hk : k ≠ .clear) (hsize : recW body = 0 ∨ recH body = 0) :
    examineDraw k pens panes body = .emptySize := by
  simp only [examineDraw, h, hopen, reduceCtorEq, if_false, if_neg hk, if_pos hsize]

theorem examineDraw_clippedAway (h : drawRefusal k pens panes body = none)
    (hopen : (panes.get (recPane body)).access = .opened) (hk : k ≠ .clear) (hsize : ¬ (recW body = 0 ∨ recH body = 0))
    (hclip : ∀ i j, ¬ kept k (panes.get (recPane body)) body i j) : examineDraw k pens panes body = .clippedAway := by
  simp only [examineDraw, h, hopen, reduceCtorEq, if_false, if_neg hk, if_neg hsize]
  exact if_pos (destinationOf_eq_nil hclip)

end

/-- A record that is decided before any drawing is completed at once (R78). -/
theorem exec_draw_decided {s : State} {f : RxFrame} {r : Record} {k : DrawKind} (h : DrawAtCursor s f r k)
    {o : DrawOutcome} (ho : examineDraw k s.engine.pens s.panes r.body = o) (hjob : o.job? = none) :
    exec (drawStep k) s = .next ((s.noteOutcome o r.kind r.tag (some f.sequence)).advance r) := by
  obtain ⟨hat, hdraw, hk, hfree⟩ := h
  have hr := recordOf?_of_atRecord hat
  rw [hk] at hr
  rw [exec_drawStep, live_released hat.1]
  simp only [takeDraw, hr, hdraw, hfree, reduceCtorEq, if_false, ne_eq, not_true, ho, hjob]

/-- Settles O33. -/
theorem drawChecksInOrder : Obligations.DrawChecksInOrder := by
  refine fun s f r k h => ⟨fun hfixed => ?_, fun hfixed hout => ?_, ?_⟩
  · exact exec_draw_decided h (examineDraw_refused (drawRefusal_fixedPart hfixed)) rfl
  · exact exec_draw_decided h (examineDraw_refused (drawRefusal_range hfixed hout)) rfl
  rintro hfixed hpane hpen pane rfl
  have hrefusal := drawRefusal_inRange (pens := s.engine.pens) (panes := s.panes) hfixed hpane hpen
  refine ⟨fun hinvalid => ?_, fun hvalid hlength => ?_, fun hvalid hlength => ?_⟩
  · rw [if_pos hinvalid] at hrefusal
    exact exec_draw_decided h (examineDraw_refused hrefusal) rfl
  · rw [if_neg (by simp [hvalid]), if_neg hlength] at hrefusal
    exact exec_draw_decided h (examineDraw_refused hrefusal) rfl
  rw [if_neg (by simp [hvalid]), if_pos hlength] at hrefusal
  refine ⟨fun hshut => ?_, fun hopen hk hsize => ?_, fun hopen hk hw hh hclip => ?_⟩
  · rw [exec_draw_decided h (examineDraw_dropped hrefusal hshut) rfl, State.noteOutcome, count_one]
  · exact exec_draw_decided h (examineDraw_emptySize hrefusal hopen hk hsize) rfl
  · rw [exec_draw_decided h (examineDraw_clippedAway hrefusal hopen hk (not_or.mpr ⟨hw, hh⟩) hclip) rfl,
      State.noteOutcome, count_one]

end Sys2Proof.Machine

namespace Sys2Proof.Machine

open Sys2Proof.Statements

set_option Elab.async false

/-! # What painting leaves behind (R51, R54, R61 to R66) -/

/-! ## The store -/

/-- The address of the pixel at an offset of a record. -/
def Job.address (job : Job) (o : Nat × Nat) : Nat := pixelAddress (job.column o.1) (job.row o.2)

theorem paint_nil (s : State) (job : Job) : s.paint job [] = s := rfl

theorem paint_cons (s : State) (job : Job) (o : Nat × Nat) (rest : List (Nat × Nat)) :
    s.paint job (o :: rest) = (s.paintPixel job o).paint job rest := rfl

/-- One offset dealt with, as the store has it. -/
def paintCell (job : Job) (m : List Host.Cell) (o : Nat × Nat) : List Host.Cell :=
  writeCell m (job.address o) (job.result m o.1 o.2)

theorem paintPixel_cell (s : State) (job : Job) (o : Nat × Nat) : (s.paintPixel job o).store = paintCell job s.store o :=
  paintPixel_store s job o

theorem readCell_paintCell {m : List Host.Cell} (h : Memory.wf m = true) (job : Job) (o : Nat × Nat) (a : Nat) :
    readCell (paintCell job m o) a = if a = job.address o then job.result m o.1 o.2 else readCell m a :=
  readCell_writeCell h _ _ _

theorem paint_store (s : State) (job : Job) (os : List (Nat × Nat)) :
    (s.paint job os).store = os.foldl (paintCell job) s.store := by
  induction os generalizing s with
  | nil => rfl
  | cons o rest ih => rw [paint_cons, ih, paintPixel_cell, List.foldl_cons]

theorem paint_wf {s : State} (h : Memory.wf s.store = true) (job : Job) (os : List (Nat × Nat)) :
    Memory.wf (s.paint job os).store = true :=
  List.foldlRecOn (motive := fun u : State => Memory.wf u.store = true) os _ h fun u hu o _ => by
    rw [paintPixel_store]
    exact Memory.wf_writeCell hu _ _

/-- An address that no painted offset has keeps its index. -/
theorem readCell_paint_of_not_mem {s : State} (h : Memory.wf s.store = true) (job : Job) {os : List (Nat × Nat)} {a : Nat}
    (ha : ∀ o ∈ os, job.address o ≠ a) : readCell (s.paint job os).store a = readCell s.store a := by
  induction os generalizing s with
  | nil => rfl
  | cons o rest ih =>
    have hwf : Memory.wf (s.paintPixel job o).store = true := paint_wf h job [o]
    rw [paint_cons, ih hwf fun o ho => ha o (List.mem_cons_of_mem _ ho), paintPixel_cell, readCell_paintCell h,
      if_neg fun heq => ha o List.mem_cons_self heq.symm]

/-! ## The penless writers (R71) -/

/-- The enable of a penless writer is 1 everywhere (R71). -/
theorem clearJob_enable (n : Nat) (pane : Pane) (m : List Host.Cell) (i j : Nat) :
    (clearJob n pane).enable m i j = true := by
  have hbit : (penless pane.fill).stippleBit ((clearJob n pane).column i) = true := by
    have hones : ∀ b < 32, (0xFFFFFFFF#32).getLsbD b = true := by decide
    exact hones _ (by omega)
  simp only [Job.enable, Bool.and_eq_true]
  exact ⟨hbit, rfl⟩

theorem clearJob_touches (n : Nat) (pane : Pane) (m : List Host.Cell) (i j : Nat) :
    (clearJob n pane).touches m i j = true := by
  rw [Job.touches, clearJob_enable]
  rfl

/-- COPY through a mask of all planes (R66, R71). -/
theorem copy_all_planes (a l : Byte) : (Alu.apply .copy a l &&& 0xFF#8) ||| (l &&& ~~~0xFF#8) = a := by
  have hall : 0xFF#8 = BitVec.allOnes 8 := rfl
  rw [hall, Alu.apply, BitVec.and_allOnes, BitVec.not_allOnes, BitVec.and_zero, BitVec.or_zero]

/-- A penless writer leaves the fill colour. -/
theorem clearJob_result (n : Nat) (pane : Pane) (m : List Host.Cell) (i j : Nat) :
    (clearJob n pane).result m i j = pane.fill := by
  rw [Job.result, clearJob_enable, Pen.newIndex, if_pos rfl]
  exact copy_all_planes _ _

theorem clearJob_address (n : Nat) (pane : Pane) (o : Nat × Nat) :
    (clearJob n pane).address o = pixelAddress (pane.left + o.1) (pane.top + o.2) := by
  simp only [Job.address, Job.column, Job.row, clearJob]
  congr 1

/-- Painted with one index throughout: an address holds it where one of the offsets has it. -/
theorem readCell_paint_clearJob {s : State} (h : Memory.wf s.store = true) (n : Nat) (pane : Pane)
    (os : List (Nat × Nat)) (a : Nat) :
    readCell (s.paint (clearJob n pane) os).store a =
      if ∃ o ∈ os, (clearJob n pane).address o = a then pane.fill else readCell s.store a := by
  induction os generalizing s with
  | nil => simp [paint_nil]
  | cons o rest ih =>
    have hwf : Memory.wf (s.paintPixel (clearJob n pane) o).store = true := paint_wf h _ [o]
    rw [paint_cons, ih hwf, paintPixel_cell, readCell_paintCell h, clearJob_result]
    by_cases ho : a = (clearJob n pane).address o
    · have hex : ∃ o' ∈ o :: rest, (clearJob n pane).address o' = a := ⟨o, List.mem_cons_self, ho.symm⟩
      rw [if_pos ho, if_pos hex, ite_self]
    · simp only [List.mem_cons, exists_eq_or_imp, if_neg ho, Ne.symm ho, false_or]

/-! ## The panes, while no digest is being computed (R51, R54) -/

theorem touched_touched (d : DigestState) : d.touched.touched = d.touched := by cases d <;> rfl

/-- Two touches are one touch of the pixels of both. -/
theorem touchedBy_touchedBy (p : Pane) (a b : Pane → Bool) :
    (p.touchedBy a).touchedBy b = p.touchedBy fun q => a q || b q := by
  by_cases hv : p.valid = true
  · by_cases ha : a p = true
    · by_cases hb : b p = true <;> simp [Pane.touchedBy, hv, ha, hb, touched_touched]
    · simp [Pane.touchedBy, hv, ha]
  · simp [Pane.touchedBy, hv]

/-- A write of one pixel touches no pane's run while none is running. -/
theorem touchWhere_of_not_running {s : State} (hr : s.digest.running = none) (hit : Pane → Bool) :
    s.touchWhere hit = { s with panes := s.panes.mapIdx fun _ p => p.touchedBy hit } := by
  simp [State.touchWhere, hitsRun, hr]

/-- The pane contains a pixel that one of the offsets touches. -/
def Job.touchesPane (job : Job) (touched : Nat × Nat → Bool) (os : List (Nat × Nat)) (p : Pane) : Bool :=
  os.any fun o => touched o && p.contains (job.column o.1) (job.row o.2)

theorem paintPixel_of_not_running {s : State} (hr : s.digest.running = none) (job : Job) (o : Nat × Nat) :
    s.paintPixel job o =
      { s with
        store := paintCell job s.store o
        panes := s.panes.mapIdx fun _ p => p.touchedBy (job.touchesPane (fun o => job.touches s.store o.1 o.2) [o]) } := by
  unfold State.paintPixel State.touch
  dsimp only
  split
  next ht =>
    have hhit : job.touchesPane (fun o => job.touches s.store o.1 o.2) [o] =
        fun p => p.contains (job.column o.1) (job.row o.2) := by
      funext p
      simp [Job.touchesPane, ht]
    rw [hhit]
    exact touchWhere_of_not_running (s := s.writePixel _ _ _) hr _
  next ht =>
    have hnone : s.panes.mapIdx (fun _ p => p.touchedBy (job.touchesPane (fun o => job.touches s.store o.1 o.2) [o])) =
        s.panes := Table.ext_get fun n hn => by
      rw [Table.get_mapIdx _ _ hn]
      simp [Pane.touchedBy, Job.touchesPane, ht]
    rw [hnone]
    rfl

theorem paint_of_not_running {s : State} (hr : s.digest.running = none) (job : Job) (os : List (Nat × Nat)) :
    s.paint job os = { s with store := (s.paint job os).store, panes := (s.paint job os).panes } := by
  induction os generalizing s with
  | nil => rfl
  | cons o rest ih =>
    have hpixel := paintPixel_of_not_running hr job o
    rw [paint_cons, ih (by rw [hpixel]; exact hr)]
    rw [hpixel]

/-- The digests after a list of offsets, where it is known of each whether it will touch its pixel. -/
theorem paint_pane {s : State} (hr : s.digest.running = none) {job : Job} {touched : Nat × Nat → Bool}
    {os : List (Nat × Nat)}
    (ht : ∀ pre o post, os = pre ++ o :: post → job.touches (s.paint job pre).store o.1 o.2 = touched o) {n : Nat}
    (hn : n < 16) : (s.paint job os).panes.get n = (s.panes.get n).touchedBy (job.touchesPane touched os) := by
  induction os generalizing s with
  | nil => simp [paint_nil, Pane.touchedBy, Job.touchesPane]
  | cons o rest ih =>
    have hpixel := paintPixel_of_not_running hr job o
    have hfirst : job.touches s.store o.1 o.2 = touched o := ht [] o rest rfl
    rw [paint_cons, ih (by rw [hpixel]; exact hr)]
    · rw [hpixel]
      dsimp only
      rw [Table.get_mapIdx _ _ hn, touchedBy_touchedBy]
      congr 1
      funext q
      simp [Job.touchesPane, hfirst]
    · intro pre o' post hos
      exact ht (o :: pre) o' post (by rw [hos]; rfl)

end Sys2Proof.Machine

namespace Sys2Proof.Machine

open Sys2Proof.Statements

set_option Elab.async false

/-! # The retention check and clearing (R71, R103 to R105) -/

/-! ## The next pane -/

theorem nextPane_eq_some {panes : Table Pane 16} {p : Pane → Bool} {lo m : Nat} (hlo : lo ≤ m) (hm : m < 16)
    (hp : p (panes.get m) = true) (hbelow : ∀ l, lo ≤ l → l < m → p (panes.get l) = false) :
    nextPane panes p lo = some m := by
  rw [nextPane, List.find?_eq_some_iff_getElem]
  refine ⟨hp, m - lo, by simp; omega, by simp; omega, fun j hj => ?_⟩
  rw [List.getElem_range', hbelow _ (by omega) (by omega)]
  rfl

theorem nextPane_eq_none {panes : Table Pane 16} {p : Pane → Bool} {lo : Nat}
    (h : ∀ m, lo ≤ m → m < 16 → p (panes.get m) = false) : nextPane panes p lo = none := by
  rw [nextPane, List.find?_eq_none]
  intro m hm
  rw [List.mem_range'_1] at hm
  simp [h m (by omega) (by omega)]

theorem hasDozeDigest_eq_false (p : Pane) : p.hasDozeDigest = false ↔ p.dozeDigest = none := by
  simp [Pane.hasDozeDigest]

theorem hasDozeDigest_eq_true (p : Pane) : p.hasDozeDigest = true ↔ p.dozeDigest ≠ none := by
  simp [Pane.hasDozeDigest, Option.isSome_iff_ne_none]

/-! ## The comparison of one pane -/

/-- The check goes on past pane `n`, with the panes found lost so far (R103, R104). -/
def State.checkPast (s : State) (n : Nat) (found : List Nat) : State :=
  match nextPane s.panes Pane.hasDozeDigest (n + 1) with
  | some m => s.setWork (.check m found)
  | none => s.checkMade found

theorem exec_retentionCheckPaneDone_intact {s : State} {n : Nat} {lost : List Nat} (hr : s.resetLine = false)
    (hw : s.digest.work = .check n lost) (hfree : s.engine.holder = .free)
    (hintact : (s.panes.get n).dozeDigest = some (paneDigest s.store (s.panes.get n))) :
    exec .retentionCheckPaneDone s =
      .next ((s.setDigestState n (.valid (paneDigest s.store (s.panes.get n)))).checkPast n lost) := by
  rw [exec, execRetentionCheckPaneDone, onEvent_occurs hr (by simp [hfree]), hw]
  simp only [hintact, decide_true, if_true]
  rfl

theorem exec_retentionCheckPaneDone_lost {s : State} {n : Nat} {lost : List Nat} (hr : s.resetLine = false)
    (hw : s.digest.work = .check n lost) (hfree : s.engine.holder = .free)
    (hlost : (s.panes.get n).dozeDigest ≠ some (paneDigest s.store (s.panes.get n))) :
    exec .retentionCheckPaneDone s = .next (s.checkPast n (lost ++ [n])) := by
  rw [exec, execRetentionCheckPaneDone, onEvent_occurs hr (by simp [hfree]), hw]
  simp only [hlost, decide_false, Bool.false_eq_true, if_false]
  rfl

theorem checkPast_next {s : State} {n m : Nat} (found : List Nat) (hnm : n < m) (hm : m < 16)
    (hd : (s.panes.get m).dozeDigest ≠ none) (hbetween : ∀ l, n < l → l < m → (s.panes.get l).dozeDigest = none) :
    s.checkPast n found = { s with digest := { s.digest with work := .check m found } } := by
  have hnext : nextPane s.panes Pane.hasDozeDigest (n + 1) = some m :=
    nextPane_eq_some hnm hm ((hasDozeDigest_eq_true _).mpr hd) fun l hl hlm =>
      (hasDozeDigest_eq_false _).mpr (hbetween l hl hlm)
  simp only [State.checkPast, hnext]
  rfl

theorem checkPast_last {s : State} {n : Nat} (found : List Nat)
    (hlast : ∀ m, n < m → m < 16 → (s.panes.get m).dozeDigest = none) : s.checkPast n found = s.checkMade found := by
  have hnext : nextPane s.panes Pane.hasDozeDigest (n + 1) = none :=
    nextPane_eq_none fun m hm h16 => (hasDozeDigest_eq_false _).mpr (hlast m hm h16)
  simp only [State.checkPast, hnext]

/-- The lost pane's turn (R104): what the clearing writes is known from the entry, whether or not there is one. -/
theorem beginClearing_eq {s : State} {n : Nat} {p : Pane}
    (hp : p = { s.panes.get n with lost := true, digest := .none }) (rest : List Nat) :
    s.beginClearing n rest =
      { s with
        panes := s.panes.set n p
        engine := { s.engine with holder := .retention, job := some (clearJob n p) }
        digest := { s.digest with work := .clearing (n :: rest) } } := by
  have hjob : clearJob n ((s.panes.set n p).get n) = clearJob n p := by
    rw [Table.get_set]
    split
    · rfl
    · rw [hp]
      rfl
  subst hp
  rw [← hjob]
  rfl

/-! ## The clearing of one pane -/

/-- The rest of the offsets painted over a store that has had the first ones painted. -/
theorem paint_drop_store {s v : State} {job : Job} {os : List (Nat × Nat)} {k : Nat}
    (h : v.store = (s.paint job (os.take k)).store) : (v.paint job (os.drop k)).store = (s.paint job os).store := by
  rw [paint_store, h, paint_store, ← List.foldl_append, List.take_append_drop, paint_store]

theorem exists_wholePane_iff {pane : Pane} (hx : pane.left + pane.width ≤ 1280) (n : Nat) {x y : Nat} (hx' : x < 1280) :
    (∃ o ∈ wholePane pane, (clearJob n pane).address o = pixelAddress x y) ↔ pane.contains x y = true := by
  constructor
  · rintro ⟨o, ho, ha⟩
    obtain ⟨h1, h2⟩ := mem_wholePane.mp ho
    rw [clearJob_address] at ha
    obtain ⟨rfl, rfl⟩ := pixelAddress_inj (by omega) hx' ha
    simp [Pane.contains]
    omega
  · intro hc
    simp only [Pane.contains, Bool.and_eq_true, decide_eq_true_eq] at hc
    refine ⟨(x - pane.left, y - pane.top), mem_wholePane.mpr ⟨by dsimp only; omega, by dsimp only; omega⟩, ?_⟩
    rw [clearJob_address]
    congr 1 <;> dsimp only <;> omega

theorem touchesPane_append (job : Job) (touched : Nat × Nat → Bool) (os os' : List (Nat × Nat)) (p : Pane) :
    job.touchesPane touched (os ++ os') p = (job.touchesPane touched os p || job.touchesPane touched os' p) :=
  List.any_append

/-- A clearing touches a pane that has a pixel in common with the one cleared. -/
theorem touchesPane_wholePane (n : Nat) (pane p : Pane) :
    (clearJob n pane).touchesPane (fun _ => true) (wholePane pane) p = true ↔
      ∃ x y, p.contains x y = true ∧ pane.contains x y = true := by
  have hcolumn : ∀ i, (clearJob n pane).column i = pane.left + i := fun _ => rfl
  have hrow : ∀ j, (clearJob n pane).row j = pane.top + j := fun _ => rfl
  simp only [Job.touchesPane, List.any_eq_true, Bool.true_and, hcolumn, hrow, mem_wholePane]
  constructor
  · rintro ⟨o, ⟨h1, h2⟩, hc⟩
    exact ⟨_, _, hc, by simp [Pane.contains, h1, h2]⟩
  · rintro ⟨x, y, hp, hc⟩
    simp only [Pane.contains, Bool.and_eq_true, decide_eq_true_eq] at hc
    obtain ⟨⟨⟨hx, hx'⟩, hy⟩, hy'⟩ := hc
    refine ⟨(x - pane.left, y - pane.top), ⟨by dsimp only; omega, by dsimp only; omega⟩, ?_⟩
    dsimp only
    rwa [Nat.add_sub_cancel' hx, Nat.add_sub_cancel' hy]

theorem touchedBy_digest (p : Pane) (hit : Pane → Bool) : p.touchedBy hit = { p with digest := (p.touchedBy hit).digest } := by
  unfold Pane.touchedBy
  split <;> rfl

/-- Painted by a penless writer, in two parts: each pane is touched as by the whole. -/
theorem paint_clearJob_pane {s v : State} {n : Nat} {pane : Pane} {os : List (Nat × Nat)} {k : Nat}
    (hs : s.digest.running = none) (hv : v.digest.running = none)
    (hpanes : v.panes = (s.paint (clearJob n pane) (os.take k)).panes) {m : Nat} (hm : m < 16) :
    (v.paint (clearJob n pane) (os.drop k)).panes.get m =
      (s.panes.get m).touchedBy ((clearJob n pane).touchesPane (fun _ => true) os) := by
  have htouched : ∀ (u : State) (l pre : List (Nat × Nat)) (o : Nat × Nat) (post : List (Nat × Nat)),
      l = pre ++ o :: post → (clearJob n pane).touches (u.paint (clearJob n pane) pre).store o.1 o.2 = true :=
    fun _ _ _ _ _ _ => clearJob_touches _ _ _ _ _
  rw [paint_pane hv (touched := fun _ => true) (htouched v _) hm, hpanes,
    paint_pane hs (touched := fun _ => true) (htouched s _) hm, touchedBy_touchedBy]
  congr 1
  funext q
  rw [← touchesPane_append, List.take_append_drop]

theorem touched_of_not_running (d : DigestState) : d ≠ .running →
    d.touched = match d with
      | .valid _ => .stale
      | d => d := by
  intro h
  cases d with
  | running => exact absurd rfl h
  | none | pending | stale | valid => rfl

/-! ## The end of one clearing -/

theorem exec_retentionClearPaneDone_last {u v : State} {n : Nat} {job : Job} (hr : v.resetLine = false)
    (hh : v.engine.holder = .retention) (hw : v.digest.work = .clearing [n]) (hj : v.engine.job = some job)
    (hu : v.paint job job.todo = u) :
    exec .retentionClearPaneDone v =
      .next (State.endCheck { u with engine := { u.engine with holder := .free, job := none } } true) := by
  rw [exec, execRetentionClearPaneDone, onEvent_occurs hr (by simp [hh])]
  simp only [hw, hj, hu]
  rfl

theorem exec_retentionClearPaneDone_next {u v : State} {n m : Nat} {rest : List Nat} {job : Job}
    (hr : v.resetLine = false) (hh : v.engine.holder = .retention) (hw : v.digest.work = .clearing (n :: m :: rest))
    (hj : v.engine.job = some job) (hu : v.paint job job.todo = u) :
    exec .retentionClearPaneDone v = .next (u.beginClearing m rest) := by
  rw [exec, execRetentionClearPaneDone, onEvent_occurs hr (by simp [hh])]
  simp only [hw, hj, hu]

/-- Settles O40. The order of a clearing's pixels is the model's reading (notes/assumptions/25.md). -/
theorem retentionCheckAndClearing : Obligations.RetentionCheckAndClearing := by
  refine ⟨?_, ?_⟩
  · rintro s u n lost found v hr hw hfree hn rfl hintact hlost
    have hdoze : ∀ m, (u.panes.get m).dozeDigest = (s.panes.get m).dozeDigest := fun m => by
      by_cases h : (s.panes.get n).dozeDigest = some (paneDigest s.store (s.panes.get n))
      · obtain ⟨-, rfl⟩ := hintact h
        dsimp only
        rw [Table.get_set]
        split
        next hm => rw [hm.1]
        · rfl
      · rw [(hlost h).2]
    have hexec : exec .retentionCheckPaneDone s = .next (u.checkPast n found) := by
      by_cases h : (s.panes.get n).dozeDigest = some (paneDigest s.store (s.panes.get n))
      · obtain ⟨rfl, rfl⟩ := hintact h
        exact exec_retentionCheckPaneDone_intact hr hw hfree h
      · obtain ⟨rfl, rfl⟩ := hlost h
        exact exec_retentionCheckPaneDone_lost hr hw hfree h
    simp only [← hdoze]
    refine ⟨fun m hnm hm hd hbetween => ?_, fun hlast => ⟨?_, ?_⟩⟩
    · rw [hexec, checkPast_next found hnm hm hd hbetween]
    · rintro rfl
      rw [hexec, checkPast_last _ hlast]
      rfl
    · rintro first rest p rfl - hp
      rw [hexec, checkPast_last _ hlast]
      exact congrArg _ (beginClearing_eq hp rest)
  · rintro s v n k rest job hs hn rfl - hr hh hw hj hstore
    generalize hpane : s.panes.get n = pane at hj hstore ⊢
    obtain ⟨hfits, -⟩ := hpane ▸ hs.panes.fits n
    have hjob : (clearJob n pane).todo = wholePane pane := rfl
    rw [hjob] at hj hstore ⊢
    obtain ⟨u, hu⟩ : ∃ u, v.paint (clearJob n pane) ((wholePane pane).drop k) = u := ⟨_, rfl⟩
    have hustore : u.store = (s.paint (clearJob n pane) (wholePane pane)).store := hu ▸ paint_drop_store hstore
    refine ⟨u, fun x y hx hy => ?_, ?_, ?_, fun hv => ⟨?_, fun m hm => ?_⟩,
      fun hv hsr hpanes hrun m hm => ⟨fun hin => ?_, fun hout => ?_⟩⟩
    · rw [State.pixel, hustore, readCell_paint_clearJob hs.canonical, if_congr (exists_wholePane_iff hfits n hx) rfl rfl]
      rfl
    · rintro rfl
      exact exec_retentionClearPaneDone_last hr hh hw hj hu
    · rintro m rest' p rfl hp
      rw [exec_retentionClearPaneDone_next hr hh hw hj hu, beginClearing_eq hp rest']
    · rw [← hu]
      exact paint_of_not_running hv _ _
    · have hvm := paint_clearJob_pane (s := v) (n := n) (pane := pane) (os := (wholePane pane).drop k) (k := 0) hv hv
        rfl hm
      rw [List.drop_zero, hu] at hvm
      rw [hvm]
      exact touchedBy_digest _ _
    · rw [← hu, paint_clearJob_pane hsr hv hpanes hm,
        touchedBy_of_hit hin.1 ((touchesPane_wholePane n pane _).mpr hin.2)]
      exact touched_of_not_running _ (hrun m hm)
    · rw [← hu, paint_clearJob_pane hsr hv hpanes hm, touchedBy_of_miss]
      exact fun h => hout ⟨h.1, (touchesPane_wholePane n pane _).mp h.2⟩

end Sys2Proof.Machine

namespace Sys2Proof.Machine

open Sys2Proof.Statements

set_option Elab.async false

/-! # What a drawn record touches (R51, R54, R61 to R69, R78, R88 to R91) -/

/-! ## The order of a destination set (R61, R90) -/

/-- Row after row, each row column after column. -/
theorem offsetsOf_pairwise {rows columns : List Nat} {R C : Nat → Nat → Prop} (hr : rows.Pairwise R)
    (hc : columns.Pairwise C) :
    (offsetsOf rows columns).Pairwise fun o o' => R o.2 o'.2 ∨ (o.2 = o'.2 ∧ C o.1 o'.1) := by
  unfold offsetsOf
  rw [List.pairwise_flatMap]
  refine ⟨fun j _ => List.pairwise_map.mpr (hc.imp fun h => .inr ⟨rfl, h⟩), hr.imp fun h => ?_⟩
  simp only [List.mem_map]
  rintro _ ⟨i, -, rfl⟩ _ ⟨i', -, rfl⟩
  exact .inl h

/-- The order in which a range is taken, forwards or backwards. -/
def Follows (reversed : Bool) (a b : Nat) : Prop := if reversed then b < a else a < b

theorem Pairwise.follows {l : List Nat} (h : l.Pairwise (· < ·)) (reversed : Bool) :
    (if reversed then l.reverse else l).Pairwise (Follows reversed) := by
  cases reversed with
  | false => exact h
  | true => exact List.pairwise_reverse.mpr h

theorem keptRows_sorted (k : DrawKind) (pane : Pane) (body : List Word) : (keptRows k pane body).Pairwise (· < ·) := by
  unfold keptRows offsetRange
  split <;> exact List.pairwise_lt_range'

theorem keptColumns_sorted (k : DrawKind) (pane : Pane) (body : List Word) :
    (keptColumns k pane body).Pairwise (· < ·) := by
  unfold keptColumns offsetRange
  split <;> exact List.pairwise_lt_range'

/-- No pixel that a copy has written is the source of a later one (R90). -/
theorem destinationOf_sources {k : DrawKind} (hk : k.copies = true) (pane : Pane) (body : List Word) :
    (destinationOf k pane body).Pairwise fun o o' =>
      ¬ (pane.left + recX body + o.1 = recSx body + o'.1 ∧ pane.top + recY body + o.2 = recSy body + o'.2) := by
  refine (offsetsOf_pairwise (Pairwise.follows (keptRows_sorted k pane body) (rowsReversed k pane body))
    (Pairwise.follows (keptColumns_sorted k pane body) (columnsReversed k pane body))).imp fun {o o'} h => ?_
  simp only [Follows, rowsReversed, columnsReversed, hk, Bool.true_and, Bool.and_eq_true, decide_eq_true_eq] at h
  split at h <;> split at h <;> omega

/-! ## The enable of an offset (R65, R67 to R70) -/

theorem wordAt_drop (body : List Word) (m n : Nat) : wordAt (body.drop m) n = wordAt body (m + n) := by
  simp [wordAt, List.getD_eq_getElem?_getD]

theorem reverseWord_zero : reverseWord 0 = 0 := by
  refine BitVec.eq_of_getLsbD_eq fun i _ => ?_
  rw [reverseWord, BitVec.getLsbD_reverse]
  simp

theorem wordAt_map_reverse (body : List Word) (n : Nat) : wordAt (body.map reverseWord) n = reverseWord (wordAt body n) := by
  simp only [wordAt, List.getD_eq_getElem?_getD, List.getElem?_map]
  cases body[n]? with
  | none => exact reverseWord_zero.symm
  | some w => rfl

/-- The data bits as the pen's bit order has them used (R70, R83). -/
theorem dataBit_usedData (pen : Pen) (body : List Word) (base i : Nat) :
    dataBit (usedData pen body) base i = pictureBit pen body base i := by
  unfold dataBit usedData pictureBit
  cases pen.bitOrder with
  | msbFirst => simp [wordAt_drop]
  | lsbFirst =>
    simp only [wordAt_map_reverse, wordAt_drop, reverseWord, if_true, BitVec.getLsbD_reverse, BitVec.getMsbD_eq_getLsbD]
    have hlow : 32 - 1 - (31 - i % 32) = i % 32 := by omega
    have hin : 31 - i % 32 < 32 := by omega
    simp only [hlow, hin, decide_true, Bool.true_and]

section

variable {k : DrawKind} (pen : Pen) (pane : Pane) (body : List Word)

/-- The enable of an offset of a rectangle, over the store as it stood before the record. -/
theorem rectangleJob_enable (hk : k ≠ .clear) (s : State) (i j : Nat) :
    (rectangleJob k pen pane body).enable s.store i j =
      enabled s k pen body ((rectangleJob k pen pane body).column i) i j := by
  unfold Job.enable enabled
  congr 1
  cases k with
  | glyph => exact congrArg (pen.opaqueBg || ·) (dataBit_usedData pen body _ i)
  | clear => exact absurd rfl hk
  | fill | planes | move | keymove => rfl

theorem rectangleJob_column {k : DrawKind} {pen : Pen} {pane : Pane} {body : List Word} {i j : Nat}
    (h : (i, j) ∈ destinationOf k pane body) :
    ((rectangleJob k pen pane body).column i : Int) = pane.left + recX body + i ∧
      ((rectangleJob k pen pane body).row j : Int) = pane.top + recY body + j := by
  obtain ⟨-, -, -, -, hx, -, hy, -⟩ := mem_destinationOf_iff.mp h
  simp only [Job.column, Job.row, rectangleJob]
  omega

/-- The source of an offset is as it was before the record, whatever offsets come before it (R89, R90). -/
theorem rectangleJob_source_stable {s : State} (hwf : Memory.wf s.store = true) {k : DrawKind} (hk : k.copies = true)
    (pen : Pen) {pane : Pane} (hfits : pane.left + pane.width ≤ 1280) (body : List Word) {pre post : List (Nat × Nat)} {o : Nat × Nat}
    (ho : destinationOf k pane body = pre ++ o :: post) :
    (rectangleJob k pen pane body).source (s.paint (rectangleJob k pen pane body) pre).store o.1 o.2 =
      (rectangleJob k pen pane body).source s.store o.1 o.2 := by
  refine readCell_paint_of_not_mem hwf _ fun o' ho' ha => ?_
  have horder := destinationOf_sources hk pane body
  rw [ho, List.pairwise_append] at horder
  obtain ⟨-, -, hcross⟩ := horder
  have hmem : (o.1, o.2) ∈ destinationOf k pane body := by rw [ho]; simp
  have hmem' : (o'.1, o'.2) ∈ destinationOf k pane body := by rw [ho]; simp [ho']
  obtain ⟨hcolumn, hrow⟩ := rectangleJob_column (pen := pen) hmem'
  obtain ⟨-, -, -, -, -, hx, -, hy, -⟩ := mem_destinationOf_iff.mp hmem'
  obtain ⟨-, -, -, -, -, -, -, -, hsource⟩ := mem_destinationOf_iff.mp hmem
  obtain ⟨hsx, hsx', hsy, hsy'⟩ := hsource ((copies_iff k).mp hk)
  obtain ⟨h1, h2⟩ : _ = (recSx body + o.1).toNat ∧ _ = (recSy body + o.2).toNat := pixelAddress_inj (by omega) (by omega) ha
  exact hcross o' ho' o List.mem_cons_self ⟨by omega, by omega⟩

/-- So is whether it touches its pixel (R66). -/
theorem rectangleJob_touches_stable {s : State} (hwf : Memory.wf s.store = true) (k : DrawKind) (pen : Pen) {pane : Pane}
    (hfits : pane.left + pane.width ≤ 1280) (body : List Word) {pre post : List (Nat × Nat)} {o : Nat × Nat}
    (ho : destinationOf k pane body = pre ++ o :: post) :
    (rectangleJob k pen pane body).touches (s.paint (rectangleJob k pen pane body) pre).store o.1 o.2 =
      (rectangleJob k pen pane body).touches s.store o.1 o.2 := by
  cases k with
  | keymove =>
    have hsource := rectangleJob_source_stable hwf rfl pen hfits body ho
    simp only [Job.touches, Job.enable, Job.operand, rectangleJob, Job.kindEnable] at hsource ⊢
    rw [hsource]
  | fill | clear | glyph | planes | move => rfl

end

/-! ## The pixels that a record touches (R66) -/

/-- The engine touches pixel (x, y) with one of the offsets of the job. -/
def Job.touchesAt (job : Job) (m : List Host.Cell) (x y : Nat) : Prop :=
  ∃ o ∈ job.todo, job.touches m o.1 o.2 = true ∧ job.column o.1 = x ∧ job.row o.2 = y

theorem touchesPane_iff (job : Job) (m : List Host.Cell) (p : Pane) :
    job.touchesPane (fun o => job.touches m o.1 o.2) job.todo p = true ↔
      ∃ x y, p.contains x y = true ∧ job.touchesAt m x y := by
  simp only [Job.touchesPane, List.any_eq_true, Bool.and_eq_true, Job.touchesAt]
  constructor
  · rintro ⟨o, ho, ht, hc⟩
    exact ⟨_, _, hc, o, ho, ht, rfl, rfl⟩
  · rintro ⟨_, _, hc, o, ho, ht, rfl, rfl⟩
    exact ⟨o, ho, ht, hc⟩

/-- The job of a CLEAR touches the pixels of its pane (R71, R82). -/
theorem clearJob_touchesAt {s : State} (hs : StoreSound s) (body : List Word) (x y : Nat) :
    (clearJob (recPane body) (s.panes.get (recPane body))).touchesAt s.store x y ↔
      x < 1280 ∧ y < 1536 ∧ touchesPixel s .clear body x y := by
  obtain ⟨hfitsX, hfitsY⟩ := hs.panes.fits (recPane body)
  have hwrites : writes s .clear body x y ↔ (s.panes.get (recPane body)).contains x y = true := by
    rw [writes, if_pos rfl]
  have henabled : ∀ i j, enabled s .clear (penless (s.panes.get (recPane body)).fill) body x i j = true := fun _ _ => by
    have hones : ∀ b < 32, (0xFFFFFFFF#32).getLsbD b = true := by decide
    exact (Bool.and_true _).trans (hones _ (by omega))
  have hmask : ∀ fill, (penless fill).planeMask ≠ 0 := fun _ => show (0xFF#8 : Byte) ≠ 0 by decide
  rw [touchesPixel, hwrites, penInForce, if_pos rfl, henabled]
  simp only [Job.touchesAt, clearJob_touches, true_and, Pane.contains, Bool.and_eq_true, decide_eq_true_eq, and_true]
  constructor
  · rintro ⟨o, ho, rfl, rfl⟩
    obtain ⟨h1, h2⟩ := mem_wholePane.mp ho
    have hcolumn : (clearJob (recPane body) (s.panes.get (recPane body))).column o.1 =
      (s.panes.get (recPane body)).left + o.1 := rfl
    have hrow : (clearJob (recPane body) (s.panes.get (recPane body))).row o.2 =
      (s.panes.get (recPane body)).top + o.2 := rfl
    rw [hcolumn, hrow]
    exact ⟨by omega, by omega, ⟨⟨⟨by omega, by omega⟩, by omega⟩, by omega⟩, hmask _⟩
  · rintro ⟨-, -, ⟨⟨⟨h1, h2⟩, h3⟩, h4⟩, -⟩
    exact ⟨(x - (s.panes.get (recPane body)).left, y - (s.panes.get (recPane body)).top),
      mem_wholePane.mpr ⟨by dsimp only; omega, by dsimp only; omega⟩, Nat.add_sub_cancel' h1, Nat.add_sub_cancel' h3⟩

/-- The engine's touch of an offset is the touch of R66. -/
theorem rectangleJob_touches_iff {k : DrawKind} (hk : k ≠ .clear) (pen : Pen) (pane : Pane) (body : List Word) (s : State)
    (i j : Nat) : (rectangleJob k pen pane body).touches s.store i j = true ↔
      pen.planeMask ≠ 0 ∧ enabled s k pen body ((rectangleJob k pen pane body).column i) i j = true := by
  rw [Job.touches, rectangleJob_enable _ _ _ hk, Bool.and_eq_true, decide_eq_true_eq, and_comm]
  rfl

/-- The job of a record with a rectangle touches the pixels that the rules say (R66). -/
theorem rectangleJob_touchesAt {s : State} (hs : StoreSound s) {k : DrawKind} (hk : k ≠ .clear) (body : List Word)
    (x y : Nat) :
    (rectangleJob k (s.engine.pens.get (recPen body)) (s.panes.get (recPane body)) body).touchesAt s.store x y ↔
      x < 1280 ∧ y < 1536 ∧ touchesPixel s k body x y := by
  obtain ⟨hfitsX, hfitsY⟩ := hs.panes.fits (recPane body)
  have hwrites : writes s k body x y ↔ kept k (s.panes.get (recPane body)) body
      ((x : Int) - ((s.panes.get (recPane body)).left + recX body))
      ((y : Int) - ((s.panes.get (recPane body)).top + recY body)) := by rw [writes, if_neg hk]
  rw [touchesPixel, penInForce, if_neg hk, hwrites, Job.touchesAt]
  constructor
  · rintro ⟨⟨i, j⟩, ho, ht, hx, hy⟩
    obtain ⟨hcolumn, hrow⟩ := rectangleJob_column (pen := s.engine.pens.get (recPen body)) ho
    have hkept := mem_destinationOf_iff.mp ho
    obtain ⟨-, -, -, -, hx0, hx1, hy0, hy1, -⟩ := id hkept
    rw [rectangleJob_touches_iff hk, hx] at ht
    obtain ⟨hmask, henabled⟩ := ht
    rw [hx] at hcolumn
    rw [hy] at hrow
    have hi : (x : Int) - ((s.panes.get (recPane body)).left + recX body) = i := by omega
    have hj : (y : Int) - ((s.panes.get (recPane body)).top + recY body) = j := by omega
    rw [offsetX, offsetY, hi, hj]
    exact ⟨by omega, by omega, hkept, hmask, henabled⟩
  · rintro ⟨-, -, hkept, hmask, henabled⟩
    obtain ⟨hi0, -, hj0, -⟩ := id hkept
    have hi : (offsetX s body x : Int) = x - ((s.panes.get (recPane body)).left + recX body) := Int.toNat_of_nonneg hi0
    have hj : (offsetY s body y : Int) = y - ((s.panes.get (recPane body)).top + recY body) := Int.toNat_of_nonneg hj0
    rw [← hi, ← hj] at hkept
    have ho := mem_destinationOf_iff.mpr hkept
    obtain ⟨hcolumn, hrow⟩ := rectangleJob_column (pen := s.engine.pens.get (recPen body)) ho
    have hx : (rectangleJob k (s.engine.pens.get (recPen body)) (s.panes.get (recPane body)) body).column
      (offsetX s body x) = x := by omega
    have hy : (rectangleJob k (s.engine.pens.get (recPen body)) (s.panes.get (recPane body)) body).row
      (offsetY s body y) = y := by omega
    refine ⟨_, ho, (rectangleJob_touches_iff hk _ _ _ _ _ _).mpr ⟨hmask, ?_⟩, hx, hy⟩
    rwa [hx]

/-! ## From the record's step to DRAW_COMPLETE (R60, R73) -/

theorem examineDraw_drawn {k : DrawKind} {pens : Table Pen 32} {panes : Table Pane 16} {body : List Word} {job : Job}
    (h : (examineDraw k pens panes body).job? = some job) :
    (k = .clear ∧ job = clearJob (recPane body) (panes.get (recPane body))) ∨
      (k ≠ .clear ∧ job = rectangleJob k (pens.get (recPen body)) (panes.get (recPane body)) body) := by
  unfold examineDraw at h
  dsimp only at h
  (repeat' split at h) <;> simp_all [DrawOutcome.job?]

/-- A draw record that took the engine: its job, and the state that the step left. -/
theorem exec_draw_job {s t : State} {f : RxFrame} {r : Record} {k : DrawKind} (h : DrawAtCursor s f r k)
    (hx : exec (drawStep k) s = .next t) (hh : t.engine.holder = .decoder) :
    ∃ o job, (examineDraw k s.engine.pens s.panes r.body).job? = some job ∧
      t = (s.noteOutcome o r.kind r.tag (some f.sequence)).setEngine .decoder (some job) := by
  obtain ⟨hat, -, -, hfree⟩ := h
  have hrecord := (atRecord_iff.mp hat).2
  rw [exec_drawStep, live_released hat.1] at hx
  injection hx with hx
  subst hx
  have hnot : ∀ u : State, u.engine = s.engine → u.engine.holder ≠ .decoder := fun u hu => by simp [hu, hfree]
  rcases takeDraw_cases k s with ht | ⟨f', r', hr', -, ⟨-, ht⟩ | ⟨-, -, o, ho, ⟨job, cut, hdrawn, ht⟩ | ⟨-, ht⟩⟩⟩ <;>
    rw [ht] at hh ⊢
  · exact absurd hh (hnot s rfl)
  · exact absurd hh (hnot _ (by simp))
  · obtain ⟨rfl, rfl⟩ : f = f' ∧ r = r' := by simpa [hrecord] using hr'
    exact ⟨o, job, by rw [← ho, hdrawn]; rfl, rfl⟩
  · exact absurd hh (hnot _ (by simp))

/-- DRAW_COMPLETE for the record at the cursor. -/
theorem exec_drawComplete {t : State} {f : RxFrame} {r : Record} {job : Job} (hat : AtRecord t f r)
    (hh : t.engine.holder = .decoder) (hj : t.engine.job = some job) :
    exec .drawComplete t = .next (((t.finishJob job).setEngine .free none).advance r) := by
  rw [exec, execDrawComplete, onEvent_occurs hat.1 (by simp [hh])]
  simp only [hj, (atRecord_iff.mp hat).2]

/-- What finishing a job leaves of the digests, with none being computed. -/
theorem finishJob_pane {t : State} (hr : t.digest.running = none) {job : Job} {touched : Nat × Nat → Bool}
    (ht : ∀ pre o post, job.todo = pre ++ o :: post → job.touches (t.paint job pre).store o.1 o.2 = touched o) {n : Nat}
    (hn : n < 16) : ((t.finishJob job).panes.get n).digest =
      ((t.panes.get n).touchedBy (job.touchesPane touched job.todo)).digest := by
  rw [← paint_pane hr ht hn]
  unfold State.finishJob
  dsimp only
  split
  · rw [State.modifyPane, Table.get_modify]
    split <;> rfl
  · rfl

theorem finishJob_digest {t : State} (hr : t.digest.running = none) (job : Job) :
    (t.finishJob job).digest = t.digest ∧ (t.finishJob job).dec = t.dec := by
  have hpaint := paint_of_not_running hr job job.todo
  unfold State.finishJob
  dsimp only
  rw [hpaint]
  split <;> exact ⟨rfl, rfl⟩

theorem noteOutcome_slots (s : State) (o : DrawOutcome) (k t : Byte) (q : Option Byte) :
    (s.noteOutcome o k t q).dec.slots = s.dec.slots := by
  unfold State.noteOutcome
  (repeat' split) <;> rfl

/-- Whatever offsets come before it, an offset of a granted record touches its pixel as over the store before the record,
and the pixels touched are those of R66. -/
theorem grantedJob_touches {s : State} (hs : StoreSound s) {k : DrawKind} {body : List Word} {job : Job}
    (hjob : (examineDraw k s.engine.pens s.panes body).job? = some job) :
    (∀ t : State, t.store = s.store → ∀ pre o post, job.todo = pre ++ o :: post →
      job.touches (t.paint job pre).store o.1 o.2 = job.touches s.store o.1 o.2) ∧
    ∀ x y, job.touchesAt s.store x y ↔ x < 1280 ∧ y < 1536 ∧ touchesPixel s k body x y := by
  obtain ⟨hfits, -⟩ := hs.panes.fits (recPane body)
  rcases examineDraw_drawn hjob with ⟨rfl, rfl⟩ | ⟨hk, rfl⟩
  · refine ⟨fun t _ pre o post _ => ?_, clearJob_touchesAt hs body⟩
    rw [clearJob_touches, clearJob_touches]
  · refine ⟨fun t ht pre o post ho => ?_, rectangleJob_touchesAt hs hk body⟩
    rw [rectangleJob_touches_stable (ht ▸ hs.canonical) k _ hfits body ho, ht]

/-- Settles O36. -/
theorem drawnRecordTouchesPanes : Obligations.DrawnRecordTouchesPanes := by
  intro s t f r k hs h hx hh hrun hnone
  obtain ⟨o, job, hjob, rfl⟩ := exec_draw_job h hx hh
  obtain ⟨hstable, hpixels⟩ := grantedJob_touches hs hjob
  obtain ⟨hr, hrecord⟩ := atRecord_iff.mp h.1
  generalize ht : (s.noteOutcome o r.kind r.tag (some f.sequence)).setEngine .decoder (some job) = t at hh ⊢
  have hat : AtRecord t f r := by
    subst ht
    exact atRecord_iff.mpr ⟨by simpa using hr, record?_joined (more := []) hrecord (by simp) (by simp)⟩
  have hj : t.engine.job = some job := by rw [← ht]; rfl
  have hdigest : t.digest = s.digest := by subst ht; simp
  have hpanes : t.panes = s.panes := by subst ht; simp
  have hslots : t.dec.slots = s.dec.slots := by subst ht; exact noteOutcome_slots _ _ _ _ _
  have hrt : t.digest.running = none := hdigest ▸ hrun
  obtain ⟨hd, hdec⟩ := finishJob_digest hrt job
  refine ⟨(t.finishJob job).setEngine .free none, exec_drawComplete hat hh hj, hd.trans hdigest,
    (congrArg Decoder.slots hdec).trans hslots, fun n hn => ?_⟩
  have hpane := finishJob_pane hrt (hstable t (by subst ht; simp)) hn
  rw [hpanes] at hpane
  have htouched : job.touchesPane (fun o => job.touches s.store o.1 o.2) job.todo (s.panes.get n) = true ↔
      ∃ x y, x < 1280 ∧ y < 1536 ∧ (s.panes.get n).contains x y = true ∧ touchesPixel s k r.body x y := by
    rw [touchesPane_iff]
    simp only [hpixels]
    exact exists₂_congr fun x y => by tauto
  refine ⟨fun hv hin => ?_, fun hout => ?_⟩
  · rw [State.setEngine_panes, hpane, touchedBy_of_hit hv (htouched.mpr hin)]
    exact touched_of_not_running _ (hnone n hn)
  · rw [State.setEngine_panes, hpane, touchedBy_of_miss]
    exact fun hhit => hout ⟨hhit.1, htouched.mp hhit.2⟩

end Sys2Proof.Machine

namespace Sys2Proof.Machine

open Sys2Proof.Statements

set_option Elab.async false

/-! # The answers of ASK_CELL, ASK_ID and ASK_STATUS (R56, R175, R179, R180) -/

/-! ## Words bit by bit -/

/-- Bits set one after another: bit `b` is set where an entry sets it. -/
theorem getLsbD_foldl_or {w : Nat} (f : Nat → Bool) (place : Nat → Nat) (l : List Nat) (a : BitVec w) {b : Nat}
    (hb : b < w) :
    (l.foldl (fun a n => if f n then a ||| (1#w <<< place n) else a) a).getLsbD b =
      (a.getLsbD b || l.any fun n => f n && decide (place n = b)) := by
  induction l generalizing a with
  | nil => simp
  | cons n rest ih =>
    rw [List.foldl_cons, ih, List.any_cons, ← Bool.or_assoc]
    congr 1
    cases f n with
    | false => simp
    | true =>
      have hone : (1#w <<< place n).getLsbD b = decide (place n = b) := by
        simp only [BitVec.getLsbD_shiftLeft, BitVec.getLsbD_one, hb]
        by_cases hp : place n = b
        · simp [hp]; omega
        · simp [hp]; omega
      simp [hone]

/-- Among entries at places of their own, the one at a place decides. -/
theorem any_range_at (f : Nat → Bool) {place : Nat → Nat} {m b : Nat} (hb : b < m)
    (hplace : ∀ n < m, place n = place b → n = b) :
    ((List.range m).any fun n => f n && decide (place n = place b)) = f b := by
  rw [Bool.eq_iff_iff, List.any_eq_true]
  constructor
  · rintro ⟨n, hn, h⟩
    simp only [Bool.and_eq_true, decide_eq_true_eq] at h
    rw [← hplace n (List.mem_range.mp hn) h.2]
    exact h.1
  · exact fun h => ⟨b, List.mem_range.mpr hb, by simp [h]⟩

/-- Bits set at places of their own in a word that was 0. -/
theorem getLsbD_foldl_or_at {w m : Nat} (f : Nat → Bool) (place : Nat → Nat) {b : Nat} (hb : b < m) (hw : place b < w)
    (hplace : ∀ n < m, place n = place b → n = b) :
    ((List.range m).foldl (fun a n => if f n then a ||| (1#w <<< place n) else a) 0).getLsbD (place b) = f b := by
  rw [getLsbD_foldl_or f place _ _ hw, any_range_at f hb hplace]
  simp

theorem maskByte_getLsbD (f : Nat → Bool) {b : Nat} (hb : b < 8) : (maskByte f).getLsbD b = f b :=
  getLsbD_foldl_or_at f (fun n => n) hb hb fun _ _ h => h

theorem maskHalf_getLsbD (f : Nat → Bool) {b : Nat} (hb : b < 16) : (maskHalf f).getLsbD b = f b :=
  getLsbD_foldl_or_at f (fun n => n) hb hb fun _ _ h => h

/-- Pixel i of a cell, counted from the left, is bit 31 − i (R56). -/
theorem cellWord_getLsbD (f : Nat → Bool) {i : Nat} (hi : i < 32) : (cellWord f).getLsbD (31 - i) = f i :=
  getLsbD_foldl_or_at f (31 - ·) hi (by omega) fun _ _ _ => by omega

@[simp] theorem halfOf_wordOfHalves_low (lo hi : BitVec 16) : halfOf (wordOfHalves lo hi) 0 = lo := by
  ext i hi
  simp only [halfOf, wordOfHalves, BitVec.getElem_extractLsb']
  grind

@[simp] theorem halfOf_wordOfHalves_high (lo hi : BitVec 16) : halfOf (wordOfHalves lo hi) 1 = hi := by
  ext i hi
  simp only [halfOf, wordOfHalves, BitVec.getElem_extractLsb']
  grind

@[simp] theorem byteOf_wordOfBytes_zero (b0 b1 b2 b3 : Byte) : byteOf (wordOfBytes b0 b1 b2 b3) 0 = b0 := by
  obtain ⟨h, -⟩ := byteOf_wordOfBytes b0 b1 b2 b3
  exact h

@[simp] theorem byteOf_wordOfBytes_one (b0 b1 b2 b3 : Byte) : byteOf (wordOfBytes b0 b1 b2 b3) 1 = b1 := by
  obtain ⟨-, h, -⟩ := byteOf_wordOfBytes b0 b1 b2 b3
  exact h

@[simp] theorem byteOf_wordOfBytes_two (b0 b1 b2 b3 : Byte) : byteOf (wordOfBytes b0 b1 b2 b3) 2 = b2 := by
  obtain ⟨-, -, h, -⟩ := byteOf_wordOfBytes b0 b1 b2 b3
  exact h

@[simp] theorem byteOf_wordOfBytes_three (b0 b1 b2 b3 : Byte) : byteOf (wordOfBytes b0 b1 b2 b3) 3 = b3 := by
  obtain ⟨-, -, -, h⟩ := byteOf_wordOfBytes b0 b1 b2 b3
  exact h

theorem half_low (n : Nat) : (half n).extractLsb' 0 8 = byte n := by
  apply BitVec.eq_of_toNat_eq
  simp [half, byte]

@[simp] theorem byteOf_wordOfHalves_half (n : Nat) (hi : BitVec 16) : byteOf (wordOfHalves (half n) hi) 0 = byte n :=
  (byteOf_wordOfHalves_low _ _).1.trans (half_low n)

/-! ## The words of the STATUS body (R175) -/

theorem statusBody_length (s : State) : (statusBody s).length = 21 := by
  cases hl : s.dec.lastRefusal <;> simp [statusBody, lastRefusalWords, counterWords, hl]

theorem statusBody_digests (s : State) {k : Nat} (hk : k < 4) : (statusBody s).getD (7 + k) 0 =
    wordOfBytes (s.panes.get (4 * k)).digest.code (s.panes.get (4 * k + 1)).digest.code
      (s.panes.get (4 * k + 2)).digest.code (s.panes.get (4 * k + 3)).digest.code := by
  interval_cases k <;> rfl

theorem statusBody_counters (s : State) {k : Nat} (hk : k < 8) : (statusBody s).getD (13 + k) 0 =
    wordOfHalves (half (s.status.counters.get (2 * k))) (if k = 7 then 0 else half (s.status.counters.get (2 * k + 1))) := by
  unfold statusBody lastRefusalWords
  cases s.dec.lastRefusal <;> interval_cases k <;> rfl

/-- Byte `i` of a word of four digest states is the one at its place. -/
theorem byteOf_four (f : Nat → Byte) (a : Nat) {i : Nat} (hi : i < 4) :
    byteOf (wordOfBytes (f a) (f (a + 1)) (f (a + 2)) (f (a + 3))) i = f (a + i) := by
  interval_cases i <;> simp

theorem statusBody_digest (s : State) {n : Nat} (hn : n < 16) :
    byteOf ((statusBody s).getD (7 + n / 4) 0) (n % 4) = (s.panes.get n).digest.code := by
  rw [statusBody_digests s (by omega), byteOf_four (fun m => (s.panes.get m).digest.code) _ (by omega)]
  congr 3
  omega

theorem statusBody_counter (s : State) {n : Nat} (hn : n < 15) :
    halfOf ((statusBody s).getD (13 + n / 2) 0) (n % 2) = half (s.status.counters.get n) := by
  rw [statusBody_counters s (by omega)]
  rcases Nat.mod_two_eq_zero_or_one n with hodd | hodd
  · rw [hodd, halfOf_wordOfHalves_low]
    congr 2
    omega
  · rw [hodd, halfOf_wordOfHalves_high, if_neg (by omega)]
    congr 2
    omega

/-- The last-refusal record's two words. -/
theorem statusBody_noRefusal {s : State} (h : s.dec.lastRefusal = none) :
    (statusBody s).getD 11 0 = 0 ∧ (statusBody s).getD 12 0 = 0 := by
  rw [statusBody, h]
  exact ⟨rfl, rfl⟩

theorem statusBody_refusal {s : State} {l : LastRefusal} (h : s.dec.lastRefusal = some l) :
    (statusBody s).getD 11 0 = wordOfBytes l.kind l.tag (l.sequence.getD 0) l.reason.code ∧
      (statusBody s).getD 12 0 = if l.sequence.isSome then 1 else 2 := by
  rw [statusBody, h]
  refine ⟨rfl, ?_⟩
  change wordOfBytes (if l.sequence.isSome then 1 else 2) 0 0 0 = _
  split <;> rfl

/-! ## The words of the CELL body (R56) -/

theorem cellBody_plane (s : State) (r : Record) {p : Nat} (hp : p < 8) : (cellBody r s).getD p 0 =
    cellWord fun i => (s.pixel (32 * byteAt r 0 0 + i) (halfAt r 0 1)).getLsbD p := by
  rw [List.getD_eq_getElem?_getD, cellBody, List.getElem?_append_left (by simpa using hp), List.getElem?_map,
    List.getElem?_range hp]
  rfl

theorem cellBody_compare (s : State) (r : Record) : (cellBody r s).getD 8 0 =
    cellWord fun i => decide ((s.pixel (32 * byteAt r 0 0 + i) (halfAt r 0 1) ^^^ byteOf (wordAt r.body 1) 0) &&&
      byteOf (wordAt r.body 1) 1 = 0) := rfl

/-- Settles O25. -/
theorem cellIdAndStatusAnswers : Obligations.CellIdAndStatusAnswers := by
  refine ⟨⟨fun s r => ⟨rfl, fun p hp i hi => ?_, fun i hi => ?_⟩, by decide⟩, fun s w hw => ?_⟩
  · rw [cellBody_plane s r hp, cellWord_getLsbD _ hi]
  · rw [cellBody_compare, cellWord_getLsbD _ hi]
  have h0 : w 0 = wordOfBytes s.status.summary s.status.noticeMask s.link.state.code s.power.device.code := hw 0
  have h1 : w 1 = s.status.timeBase := hw 1
  have h2 : w 2 = wordOfHalves s.scan.frameCounter (half (occupancy s.rxq.frames)) := hw 2
  have h3 : w 3 = wordOfBytes (byte s.rxq.frames.length) (byte s.keyq.events.length) (byte s.keys.held.length)
      (maskByte fun n => decide (n < 4) && (s.colour.sets.get n).clip) := hw 3
  have h4 : w 4 = wordOfBytes s.panel.state.code s.panel.request.code (modesByte s.panel) (byte s.panel.target) := hw 4
  have h5 : w 5 = wordOfHalves (half s.panel.actual) (maskHalf fun n => (s.panes.get n).lost) := hw 5
  have h6 : w 6 = bandWord s.panel.area := hw 6
  simp only [h0, h1, h2, h3, h4, h5, h6, byteOf_wordOfBytes_zero, byteOf_wordOfBytes_one, byteOf_wordOfBytes_two,
    byteOf_wordOfBytes_three, halfOf_wordOfHalves_low, halfOf_wordOfHalves_high, byteOf_wordOfHalves_half, true_and]
  refine ⟨statusBody_length s, fun n hn => maskByte_getLsbD _ hn, ?_, ?_, ?_, fun n hn => maskHalf_getLsbD _ hn,
    fun h => by rw [h]; rfl, fun top bottom h => ?_, fun n hn => ?_, fun h => ?_, fun l h => ?_, fun c => ?_⟩
  · rw [modesByte, maskByte_getLsbD _ (by decide)]
    simp
  · rw [modesByte, maskByte_getLsbD _ (by decide)]
    simp
  · rw [modesByte, maskByte_getLsbD _ (by decide)]
    exact Iff.rfl
  · rw [h, bandWord, halfOf_wordOfHalves_low, halfOf_wordOfHalves_high]
    exact ⟨rfl, rfl⟩
  · rw [hw, statusBody_digest s hn]
  · rw [hw, hw]
    exact statusBody_noRefusal h
  · obtain ⟨h11, h12⟩ := statusBody_refusal h
    rw [hw 11, hw 12, h11, h12]
    simp
  · rw [hw, statusBody_counter s (by cases c <;> decide)]
    rfl

end Sys2Proof.Machine

namespace Sys2Proof.Machine

open Sys2Proof.Statements

set_option Elab.async false

/-! # The answers of ASK_TABLE (R178, R180) -/

/-! ## Fields read back -/

theorem half_toNat {n : Nat} (h : n < 65536) : (half n).toNat = n := by
  simp only [half, BitVec.toNat_ofNat]
  omega

theorem byte_toNat {n : Nat} (h : n < 256) : (byte n).toNat = n := by
  simp only [byte, BitVec.toNat_ofNat]
  omega

theorem flagByte_beq_one (b : Bool) : (flagByte b == 1#8) = b := by cases b <;> rfl

theorem aluOfCode_code (a : Alu) : Alu.ofCode a.code = some a := by cases a <;> rfl

theorem bitOrderOfCode_code (b : BitOrder) : BitOrder.ofCode b.code = some b := by cases b <;> rfl

theorem accessOf_code (a : Access) : accessOf a.code.toNat = a := by cases a <;> rfl

theorem accessCode_eq (a : Access) : a.code = if a = .shut then 1 else 0 := by cases a <;> rfl

/-- The third byte of a word of two fields is the low byte of the second. -/
theorem byteOf_wordOfHalves_two (lo : BitVec 16) (b0 b1 : Byte) : byteOf (wordOfHalves lo (halfOfBytes b0 b1)) 2 = b0 := by
  ext i hi
  simp only [byteOf, wordOfHalves, halfOfBytes, BitVec.getElem_extractLsb']
  grind

theorem clampChannel_half {n : Nat} (h : n ≤ 1023) : clampChannel (half n) = n := by
  rw [clampChannel, half_toNat (by omega)]
  omega

theorem clampGain_half {n : Nat} (h : n ≤ 511) : clampGain (half n) = n := by
  rw [clampGain, half_toNat (by omega)]
  omega

theorem clampOffset_ofInt {x : Int} (h1 : -512 ≤ x) (h2 : x ≤ 511) : clampOffset (BitVec.ofInt 16 x) = x := by
  rw [clampOffset, BitVec.toInt_ofInt, Int.bmod_eq_of_le (by omega) (by omega)]
  omega

/-! ## Each layout loads its entry back -/

theorem penOf_penWords (n : Nat) (p : Pen) : penOf (penWords n p) = p := by
  simp [penOf, penWords, wordAt, flagByte_beq_one, aluOfCode_code, bitOrderOfCode_code]

theorem paletteEntryOf_paletteWords {e : PaletteEntry} (hr : e.colour.red ≤ 1023) (hg : e.colour.green ≤ 1023)
    (hb : e.colour.blue ≤ 1023) : (palettePairs (paletteWords e)).map paletteEntryOf = [e] := by
  simp [paletteWords, palettePairs, paletteEntryOf, byteOf_wordOfHalves_two, flagByte_beq_one, clampChannel_half hr,
    clampChannel_half hg, clampChannel_half hb]

theorem shadeSetOf_shadeWords {x : ShadeSet} (n : Nat) (hr : x.gain.red ≤ 511) (hg : x.gain.green ≤ 511)
    (hb : x.gain.blue ≤ 511) (hr1 : -512 ≤ x.offset.red) (hr2 : x.offset.red ≤ 511) (hg1 : -512 ≤ x.offset.green)
    (hg2 : x.offset.green ≤ 511) (hb1 : -512 ≤ x.offset.blue) (hb2 : x.offset.blue ≤ 511) :
    shadeSetOf (shadeWords n x) x.clip = x := by
  simp [shadeSetOf, shadeWords, wordAt, clampGain_half hr, clampGain_half hg, clampGain_half hb,
    clampOffset_ofInt hr1 hr2, clampOffset_ofInt hg1 hg2, clampOffset_ofInt hb1 hb2]

theorem keymapEntryOf_keymapWords {e : KeymapEntry} (h : ∀ m, e.action = .lamp m → m ≤ 6) :
    (keymapWords e).map keymapEntryOf = [e] := by
  have haction : keyActionOf (wordOfBytes e.code e.action.code (byte e.action.lampNumber) 0) = some e.action := by
    unfold keyActionOf
    cases ha : e.action with
    | lamp m =>
      have hm := h m ha
      simp [KeyAction.code, KeyAction.lampNumber, byte_toNat (show m < 256 by omega), hm]
    | key | fn | ignore => simp [KeyAction.code]
  rw [keymapWords, List.map_singleton, keymapEntryOf, haction, byteOf_wordOfBytes_zero]
  rfl

/-- A pane's four words, loaded into any entry. -/
theorem loaded_paneWords {p : Pane} (n : Nat) (hx : p.left + p.width ≤ 1280) (hy : p.top + p.height ≤ 1536)
    (hset : p.shadeSet ≤ 3) (q : Pane) (kind tag : Byte) :
    q.loaded n ⟨kind, tag, (paneWords n p).take 4⟩ =
      if p.valid = false then { q with valid := false, lost := false }
      else if n = 0 then
        { q with valid := true, access := p.access, shadeSet := p.shadeSet, fill := p.fill, lost := false }
      else { p with digest := q.digest, dozeDigest := q.dozeDigest, lost := false } := by
  have hleft : (half p.left).toNat = p.left := half_toNat (by omega)
  have htop : (half p.top).toNat = p.top := half_toNat (by omega)
  have hwidth : (half p.width).toNat = p.width := half_toNat (by omega)
  have hheight : (half p.height).toNat = p.height := half_toNat (by omega)
  have hshade : (byte p.shadeSet).toNat = p.shadeSet := byte_toNat (by omega)
  unfold Pane.loaded
  cases hv : p.valid with
  | false => simp [paneWords, headByte, wordAt, flagByte, hv]
  | true =>
    by_cases hn : n = 0 <;>
      simp [paneWords, headByte, wordAt, flagByte, hv, hn, recLeft, recTop, recWidth, recHeight, accessOf_code, hleft, htop,
        hwidth, hheight, hshade]

/-! ## The answer body -/

/-- Word 0 of the answer: the request's bytes, the reserved byte 0 (notes/assumptions/21.md). -/
def tableHead (r : Record) : Word :=
  wordOfBytes (byteOf (wordAt r.body 0) 0) (byteOf (wordAt r.body 0) 1) (byteOf (wordAt r.body 0) 2) 0

/-- The answer body is word 0 and then the words of the entry that the request names. -/
theorem tableBody_eq (r : Record) (s : State) :
    tableBody r s = tableHead r :: tableEntryWords s (byteAt r 0 0) (byteAt r 0 1) (byteAt r 0 2) := rfl

theorem tableHead_byte (r : Record) {k : Nat} (hk : k < 3) : byteOf (tableHead r) k = byteOf (wordAt r.body 0) k := by
  unfold tableHead
  interval_cases k <;> simp

section

variable {s : State} {r : Record}

theorem tableBody_pen (h : byteAt r 0 0 = 0) :
    tableBody r s = tableHead r :: penWords (byteAt r 0 2) (s.engine.pens.get (byteAt r 0 2)) := by
  rw [tableBody_eq, h]
  rfl

theorem tableBody_pane (h : byteAt r 0 0 = 1) :
    tableBody r s = tableHead r :: paneWords (byteAt r 0 2) (s.panes.get (byteAt r 0 2)) := by
  rw [tableBody_eq, h]
  rfl

theorem tableBody_palette (h : byteAt r 0 0 = 2) :
    tableBody r s = tableHead r :: paletteWords (s.colour.palette.get (byteAt r 0 2)) := by
  rw [tableBody_eq, h]
  rfl

theorem tableBody_shade (h : byteAt r 0 0 = 3) :
    tableBody r s = tableHead r :: shadeWords (byteAt r 0 2) (s.colour.sets.get (byteAt r 0 2)) := by
  rw [tableBody_eq, h]
  rfl

theorem tableBody_keymap (h : byteAt r 0 0 = 4) :
    tableBody r s = tableHead r :: keymapWords (s.keys.keymap.get (byteAt r 0 1 * 128 + byteAt r 0 2)) := by
  rw [tableBody_eq, h]
  rfl

end

theorem flagByte_eq (b : Bool) : flagByte b = if b then 1 else 0 := rfl

/-- A digest state that is not VALID has no value, which is sent as 0 (R45, R180). -/
theorem digest_absent {d : DigestState} (h : ∀ v, d ≠ .valid v) : d.present = false ∧ d.value = 0 := by
  cases d with
  | valid v => exact absurd rfl (h v)
  | none | pending | running | stale => exact ⟨rfl, rfl⟩

/-- Settles O26. Word 0, the clip byte and the lamp number of an action without one are the model's reading
(notes/assumptions/21.md and 10.md). -/
theorem tableAnswersAreLoadLayouts : Obligations.TableAnswersAreLoadLayouts := by
  rintro s r w n hw rfl
  have h0 : w 0 = tableHead r := hw 0
  refine ⟨fun k hk => by rw [h0, tableHead_byte r hk], by rw [h0, tableHead, byteOf_wordOfBytes_three], fun h => ?_,
    fun h => ?_, fun h => ?_, fun h => ?_, fun h => ?_⟩
  · have hbody := tableBody_pen (s := s) h
    have h1 := hw 1
    rw [hbody] at h1 ⊢
    rw [h1]
    exact ⟨rfl, byteOf_wordOfBytes_zero _ _ _ _, penOf_penWords _ _⟩
  · rintro p rfl
    have hbody := tableBody_pane (s := s) h
    generalize s.panes.get (byteAt r 0 2) = p at hbody ⊢
    generalize byteAt r 0 2 = n at hbody ⊢
    have h1 : w 1 = wordOfBytes (byte n) (flagByte p.valid) p.access.code (byte p.shadeSet) := by rw [hw, hbody]; rfl
    have h2 : w 2 = wordOfHalves (half p.left) (half p.top) := by rw [hw, hbody]; rfl
    have h3 : w 3 = wordOfHalves (half p.width) (half p.height) := by rw [hw, hbody]; rfl
    have h4 : w 4 = wordOfBytes p.fill 0 0 0 := by rw [hw, hbody]; rfl
    have h5 : w 5 = wordOfBytes p.digest.code (flagByte p.lost) (flagByte p.digest.present) 0 := by rw [hw, hbody]; rfl
    have h6 : w 6 = wordOfHalves p.digest.value 0 := by rw [hw, hbody]; rfl
    rw [hbody]
    simp only [h1, h2, h3, h4, h5, h6, byteOf_wordOfBytes_zero, byteOf_wordOfBytes_one, byteOf_wordOfBytes_two,
      byteOf_wordOfBytes_three, halfOf_wordOfHalves_low, halfOf_wordOfHalves_high, true_and]
    refine ⟨rfl, flagByte_eq _, accessCode_eq _, fun hx hy hset => ⟨byte_toNat (by omega), half_toNat (by omega),
      half_toNat (by omega), half_toNat (by omega), half_toNat (by omega), ?_⟩, ?_, flagByte_eq _, fun v hv => ?_,
      fun hv => ?_⟩
    · rintro q kind tag _ rfl
      rw [List.drop_one, List.tail_cons, loaded_paneWords n hx hy hset]
      refine ⟨fun hv hn => ?_, fun hv hn => ?_, fun hv => if_pos hv⟩
      · rw [if_neg (by simp [hv]), if_neg (by omega)]
      · rw [if_neg (by simp [hv]), if_pos hn]
    · cases p.digest <;> rfl
    · rw [hv]
      exact ⟨rfl, rfl⟩
    · obtain ⟨hpresent, hvalue⟩ := digest_absent hv
      rw [hpresent, hvalue]
      exact ⟨rfl, rfl⟩
  · rintro e rfl hr hg hb
    rw [tableBody_palette h]
    exact paletteEntryOf_paletteWords hr hg hb
  · rintro x rfl
    have hbody := tableBody_shade (s := s) h
    have h1 := hw 1
    rw [hbody] at h1 ⊢
    rw [h1]
    exact ⟨rfl, byteOf_wordOfBytes_zero _ _ _ _, byteOf_wordOfBytes_one _ _ _ _, shadeSetOf_shadeWords _⟩
  · rintro e rfl
    have hbody := tableBody_keymap (s := s) h
    have h1 := hw 1
    rw [hbody] at h1 ⊢
    refine ⟨keymapEntryOf_keymapWords, fun hlamp => ?_⟩
    rw [h1]
    refine (byteOf_wordOfBytes_two _ _ _ _).trans ?_
    cases ha : (s.keys.keymap.get (byteAt r 0 1 * 128 + byteAt r 0 2)).action with
    | lamp m => exact absurd ha (hlamp m)
    | key | fn | ignore => rfl

end Sys2Proof.Machine

namespace Sys2Proof.Machine

open Sys2Proof.Statements

set_option Elab.async false

/-! # The pixel arithmetic (R64 to R67) -/

/-- Bit p of the ALU result depends on bit p of the operand and of the latch alone (R64). -/
theorem getLsbD_apply (alu : Alu) (a l : Byte) (p : Nat) :
    (alu.apply a l).getLsbD p = aluBit alu (a.getLsbD p) (l.getLsbD p) := by
  cases alu <;> simp [Alu.apply, aluBit]

/-- The new index, plane by plane (R66). -/
theorem getLsbD_newIndex (pen : Pen) (e : Bool) (a l : Byte) {p : Nat} (hp : p < 8) :
    (pen.newIndex e a l).getLsbD p =
      if pen.planeMask.getLsbD p && e then aluBit pen.alu (a.getLsbD p) (l.getLsbD p) else l.getLsbD p := by
  cases e with
  | false => simp [Pen.newIndex]
  | true =>
    rw [Pen.newIndex, if_pos rfl, BitVec.getLsbD_or, BitVec.getLsbD_and, BitVec.getLsbD_and, BitVec.getLsbD_not,
      getLsbD_apply]
    cases pen.planeMask.getLsbD p <;> simp [hp]

/-- Settles O31. -/
theorem aluCombinesPlanes : Obligations.AluCombinesPlanes := by
  refine ⟨fun a l => ⟨rfl, rfl, rfl, rfl⟩, fun alu a l a' l' p ha hl => ?_, fun n pane => ⟨rfl, rfl⟩,
    fun s t hx hr hc => ?_, by decide⟩
  · rw [getLsbD_apply, getLsbD_apply, ha, hl]
  · rw [exec, execClearPassEnd, onEvent_occurs hr (by simp [hc])] at hx
    injection hx with hx
    rw [← hx]

/-- What the 32 bits of a stipple say of the columns 0 to 31 holds of every column by its residue (R67). -/
theorem stippleBit_iff {p : Pen} {w : Word} {c : Nat → Prop} (hw : p.stipple = w)
    (h : ∀ b < 32, w.getLsbD (31 - b) = true ↔ c b) (x : Nat) : p.stippleBit x = true ↔ c (x % 32) := by
  rw [Pen.stippleBit, hw]
  exact h _ (Nat.mod_lt _ (by decide))

/-- Settles O32. -/
theorem stippleSelectsColumns : Obligations.StippleSelectsColumns := by
  refine ⟨fun p x => rfl, fun p x => ?_, fun p x hw => ?_, fun p x hw => ?_, fun p x hw => ?_, fun p x hw => ?_,
    fun p x hw => ?_, fun p x hw => ?_⟩
  · rw [Pen.stippleBit, Nat.add_mod_right, Pen.stippleBit]
  · exact (stippleBit_iff (c := fun _ => True) hw (by decide) x).mpr trivial
  · rw [stippleBit_iff (c := fun b => b % 2 = 0) hw (by decide), Nat.mod_mod_of_dvd x (by decide)]
  · rw [stippleBit_iff (c := fun b => b % 2 = 1) hw (by decide), Nat.mod_mod_of_dvd x (by decide)]
  · rw [stippleBit_iff (c := fun b => b % 8 ≤ 3) hw (by decide), Nat.mod_mod_of_dvd x (by decide)]
  · rw [stippleBit_iff (c := fun b => b = 0) hw (by decide)]
  · rw [Pen.stippleBit, hw]
    exact BitVec.getLsbD_zero

/-! # LOAD_PEN and the records that set one value (R58, R59, R135, R158, R159, R172) -/

theorem aluOfCode_getD (b : Byte) (h : b.toNat ≤ 3) :
    ((Alu.ofCode b).getD .copy = .copy ↔ b.toNat = 0) ∧ ((Alu.ofCode b).getD .copy = .and ↔ b.toNat = 1) ∧
      ((Alu.ofCode b).getD .copy = .or ↔ b.toNat = 2) ∧ ((Alu.ofCode b).getD .copy = .xor ↔ b.toNat = 3) := by
  obtain hb | hb | hb | hb : b.toNat = 0 ∨ b.toNat = 1 ∨ b.toNat = 2 ∨ b.toNat = 3 := by omega
  all_goals simp [Alu.ofCode, hb]

theorem bitOrderOfCode_getD (b : Byte) (h : b.toNat ≤ 1) :
    (BitOrder.ofCode b).getD .msbFirst = .msbFirst ↔ b.toNat = 0 := by
  obtain hb | hb : b.toNat = 0 ∨ b.toNat = 1 := by omega
  all_goals simp [BitOrder.ofCode, hb]

/-- An accepted LOAD_PEN writes the pen of its body (R59). -/
theorem exec_loadPen {s : State} {f : RxFrame} {r : Record} (h : Accepted s f r 0x20) :
    exec .loadPen s = .next (State.advance
      { s with engine := { s.engine with pens := s.engine.pens.set (byteAt r 0 0) (penOf r.body) } } r) := by
  rw [exec, execLoadPen, takeControl_of_accepted h _ (loadPenCheck_eq (kind_of_accepted h))]
  rfl

theorem exec_loadBanner {s : State} {f : RxFrame} {r : Record} (h : Accepted s f r 0x25) :
    exec .loadBanner s = .next (State.advance { s with power := { s.power with
      bannerStore := s.power.bannerStore.setRun (byteAt r 0 0)
        ((List.range (r.body.length - 1)).map fun k => wordAt r.body (1 + k)) } } r) := by
  rw [exec, execLoadBanner, takeControl_of_accepted h _ (loadBannerCheck_eq (kind_of_accepted h)), tail_eq_map_wordAt]
  rfl

/-- Settles O17. -/
theorem loadPenAndSettings : Obligations.LoadPenAndSettings := by
  refine ⟨fun s f r h => ⟨_, penOf r.body, exec_loadPen h, fun m hm => ?_, ?_⟩,
    fun s f r h => ⟨_, exec_loadBanner h, fun k hk => ?_, fun i hi hout => ?_⟩, fun s f r h => ?_, fun s f r h => ?_,
    fun s f r h => ?_⟩
  · rw [Table.get_set]
    exact if_congr ⟨fun e => e.1.symm, fun e => ⟨e.symm, e ▸ hm⟩⟩ rfl rfl
  · obtain ⟨-, -, hk, -, hf⟩ := h
    simp only [fieldsInRange, hk, BitVec.reduceToNat, Bool.and_eq_true, decide_eq_true_eq] at hf
    obtain ⟨⟨⟨-, -⟩, halu⟩, horder⟩ := hf
    obtain ⟨hcopy, hand, hor, hxor⟩ := aluOfCode_getD (byteOf (wordAt r.body 1) 0) halu
    exact ⟨rfl, rfl, beq_iff_eq.trans byteOf_eq_one_iff, hcopy, hand, hor, hxor, bitOrderOfCode_getD _ horder, rfl, rfl,
      rfl, rfl⟩
  · obtain ⟨-, -, hkind, -, hf⟩ := h
    simp only [fieldsInRange, hkind, BitVec.reduceToNat, decide_eq_true_eq] at hf
    rw [get_setRun_map _ _ (by omega), if_pos (by omega), Nat.add_sub_cancel_left]
  · rw [get_setRun_map _ _ hi, if_neg (by omega)]
  · rw [exec, execSetBanner, takeControl_of_accepted h _ (setBannerCheck_eq (kind_of_accepted h))]
    rfl
  · rw [exec, execBacklight, takeControl_of_accepted h _ (lengthCheck_eq (by simp [kind_of_accepted h]))]
    rfl
  · rw [exec, execSetNotice, takeControl_of_accepted h _ (lengthCheck_eq (by simp [kind_of_accepted h]))]

end Sys2Proof.Machine

namespace Sys2Proof.Machine

open Sys2Proof.Statements

set_option Elab.async false

/-! # A draw record takes the engine (R60, R61, R73, R79, R80, R82, R88) -/

theorem examineDraw_clear {pens : Table Pen 32} {panes : Table Pane 16} {body : List Word}
    (h : drawRefusal .clear pens panes body = none) (hopen : (panes.get (recPane body)).access = .opened) :
    examineDraw .clear pens panes body = .drawn (clearJob (recPane body) (panes.get (recPane body))) false := by
  simp only [examineDraw, h, hopen, reduceCtorEq, if_false, if_true]

/-- A record with a rectangle of which an offset is kept is drawn. -/
theorem examineDraw_rectangle {k : DrawKind} {pens : Table Pen 32} {panes : Table Pane 16} {body : List Word}
    (h : drawRefusal k pens panes body = none) (hopen : (panes.get (recPane body)).access = .opened) (hk : k ≠ .clear)
    (hkept : ∃ i j, kept k (panes.get (recPane body)) body i j) :
    examineDraw k pens panes body =
      .drawn (rectangleJob k (pens.get (recPen body)) (panes.get (recPane body)) body)
        (decide ((keptColumns k (panes.get (recPane body)) body).length *
          (keptRows k (panes.get (recPane body)) body).length < recW body * recH body)) := by
  obtain ⟨i, j, hij⟩ := hkept
  obtain ⟨hi0, hiw, hj0, hjh, -⟩ := id hij
  obtain ⟨a, rfl⟩ := Int.eq_ofNat_of_zero_le hi0
  obtain ⟨b, rfl⟩ := Int.eq_ofNat_of_zero_le hj0
  have hsize : ¬ (recW body = 0 ∨ recH body = 0) := by omega
  have htodo : (rectangleJob k (pens.get (recPen body)) (panes.get (recPane body)) body).todo ≠ [] :=
    List.ne_nil_of_mem (mem_destinationOf_iff.mpr hij)
  simp only [examineDraw, h, hopen, reduceCtorEq, if_false, if_neg hk, if_neg hsize, if_neg htodo]

/-! ## How many offsets are kept (R79) -/

/-- A list of numbers below a bound, none twice, is no longer than the bound, and as long only with all of them in it. -/
theorem length_le_of_nodup {l : List Nat} {bound : Nat} (hd : l.Nodup) (hlt : ∀ i ∈ l, i < bound) :
    l.length ≤ bound ∧ (bound ≤ l.length ↔ ∀ i < bound, i ∈ l) := by
  have hsub : l.Subperm (List.range bound) := List.subperm_of_subset hd fun i hi => List.mem_range.mpr (hlt i hi)
  refine ⟨by simpa using hsub.length_le, fun hle i hi => ?_, fun hall => ?_⟩
  · exact (hsub.perm_of_length_le (by simpa using hle)).mem_iff.mpr (List.mem_range.mpr hi)
  · simpa using (List.subperm_of_subset List.nodup_range fun i hi => hall i (List.mem_range.mp hi)).length_le

theorem keptColumns_nodup (k : DrawKind) (pane : Pane) (body : List Word) : (keptColumns k pane body).Nodup :=
  (keptColumns_sorted k pane body).imp Nat.ne_of_lt

theorem keptRows_nodup (k : DrawKind) (pane : Pane) (body : List Word) : (keptRows k pane body).Nodup :=
  (keptRows_sorted k pane body).imp Nat.ne_of_lt

/-- The destination set has every offset of the rectangle exactly where no row and no column of it is clipped (R79). -/
theorem not_cut_iff {k : DrawKind} {pane : Pane} {body : List Word} (hw : 0 < recW body) (hh : 0 < recH body) :
    ¬ (keptColumns k pane body).length * (keptRows k pane body).length < recW body * recH body ↔
      ∀ i j : Nat, i < recW body → j < recH body → kept k pane body i j := by
  obtain ⟨hcw, hcolumns⟩ :=
    length_le_of_nodup (keptColumns_nodup k pane body) fun i hi => (mem_keptColumns.mp hi).1
  obtain ⟨hrh, hrows⟩ := length_le_of_nodup (keptRows_nodup k pane body) fun j hj => (mem_keptRows.mp hj).1
  have hsplit : (∀ i j : Nat, i < recW body → j < recH body → kept k pane body i j) ↔
      recW body ≤ (keptColumns k pane body).length ∧ recH body ≤ (keptRows k pane body).length := by
    simp only [← mem_destinationOf_iff, mem_destinationOf, hcolumns, hrows]
    exact ⟨fun h => ⟨fun i hi => (h i 0 hi hh).1, fun j hj => (h 0 j hw hj).2⟩,
      fun ⟨hc, hr⟩ i j hi hj => ⟨hc i hi, hr j hj⟩⟩
  rw [hsplit, Nat.not_lt]
  refine ⟨fun hle => ⟨Nat.le_of_not_lt fun hlt => ?_, Nat.le_of_not_lt fun hlt => ?_⟩, fun ⟨hc, hr⟩ =>
    Nat.mul_le_mul hc hr⟩
  · exact absurd (hle.trans (Nat.mul_le_mul_left _ hrh)) (Nat.not_le_of_lt (Nat.mul_lt_mul_of_pos_right hlt hh))
  · exact absurd (hle.trans (Nat.mul_le_mul_right _ hcw)) (Nat.not_le_of_lt (Nat.mul_lt_mul_of_pos_left hlt hw))

/-! ## No offset twice (R61) -/

theorem offsetsOf_nodup {rows columns : List Nat} (hr : rows.Nodup) (hc : columns.Nodup) :
    (offsetsOf rows columns).Nodup := by
  refine (offsetsOf_pairwise hr hc).imp ?_
  rintro ⟨i, j⟩ ⟨i', j'⟩ h heq
  injection heq with hi hj
  exact h.elim (fun hne => hne hj) fun hne => hne.2 hi

theorem destinationOf_nodup (k : DrawKind) (pane : Pane) (body : List Word) : (destinationOf k pane body).Nodup := by
  have hreverse : ∀ (l : List Nat) (b : Bool), l.Nodup → (if b then l.reverse else l).Nodup := fun l b h => by
    cases b
    · exact h
    · exact List.nodup_reverse.mpr h
  exact offsetsOf_nodup (hreverse _ _ (keptRows_nodup k pane body)) (hreverse _ _ (keptColumns_nodup k pane body))

theorem wholePane_nodup (pane : Pane) : (wholePane pane).Nodup := offsetsOf_nodup List.nodup_range List.nodup_range

/-- A record that is drawn leaves the engine with the decoder, which stays on the record (R60, R73). -/
theorem exec_draw_drawn {s : State} {f : RxFrame} {r : Record} {k : DrawKind} (h : DrawAtCursor s f r k) {job : Job}
    {cut : Bool} (ho : examineDraw k s.engine.pens s.panes r.body = .drawn job cut) :
    exec (drawStep k) s =
      .next { (if cut then s.count .clipped else s) with
        engine := { s.engine with holder := .decoder, job := some job } } := by
  obtain ⟨hat, hdraw, hk, hfree⟩ := h
  have hr := recordOf?_of_atRecord hat
  rw [hk] at hr
  rw [exec_drawStep, live_released hat.1]
  simp only [takeDraw, hr, hdraw, hfree, reduceCtorEq, if_false, ne_eq, not_true, ho, DrawOutcome.job?,
    State.noteOutcome, State.setEngine]
  cases cut <;> rfl

/-- Settles O34. -/
theorem drawnRecordTakesEngine : Obligations.DrawnRecordTakesEngine := by
  rintro s f r k pane h hfixed hpane hpen rfl hvalid hopen hlength hdrawn
  have hrefusal : drawRefusal k s.engine.pens s.panes r.body = none := by
    rw [drawRefusal_inRange hfixed hpane hpen, if_neg (by simp [hvalid]), if_pos hlength]
  by_cases hk : k = .clear
  · subst hk
    refine ⟨_, s, exec_draw_drawn h (examineDraw_clear hrefusal hopen), rfl, (if_pos rfl).symm, rfl, wholePane_nodup _,
      fun _ => ⟨rfl, rfl, rfl, fun i j => mem_wholePane⟩, fun hne => absurd rfl hne⟩
  · have hkept := hdrawn.resolve_left hk
    obtain ⟨i, j, hi0, hiw, hj0, hjh, -⟩ := id hkept
    have hcut := not_cut_iff (k := k) (pane := s.panes.get (recPane r.body)) (body := r.body) (by omega) (by omega)
    refine ⟨_, _, exec_draw_drawn h (examineDraw_rectangle hrefusal hopen hk hkept), rfl, (if_neg hk).symm, rfl,
      destinationOf_nodup _ _ _, fun hclear => absurd hclear hk, fun _ => ⟨rfl, rfl, fun i j => mem_destinationOf_iff,
      fun ⟨i, j, hi, hj, hmissing⟩ => ?_, fun hall => ?_⟩⟩
    · refine (if_pos (decide_eq_true (Decidable.not_not.mp fun hnot => ?_))).trans (count_one _ _)
      exact hmissing (hcut.mp hnot i j hi hj)
    · exact if_neg (by simpa using hcut.mpr hall)

end Sys2Proof.Machine

namespace Sys2Proof.Machine

open Sys2Proof.Statements

set_option Elab.async false

/-! # The banner player (R74, R92, R160 to R162) -/

theorem drawKindOfCode_code (k : DrawKind) : DrawKind.ofCode k.code = some k := by cases k <;> rfl

/-- A draw record stands at the player's cursor (R162). -/
theorem bannerRecord_of_draw {p : Power} {c : Nat} {r : Record} {k : DrawKind}
    (hr : readRecord (bannerBytes p c) = some (.whole r)) (hk : DrawKind.ofCode r.kind = some k) :
    bannerRecord p c = some (k, r) := by
  simp only [bannerRecord, hr, hk, Option.map_some]

/-- A structural error at the player's cursor (R162). -/
theorem bannerRecord_eq_none {p : Power} {c : Nat}
    (h : ∀ r, readRecord (bannerBytes p c) = some (.whole r) → isDrawCode r.kind = false) : bannerRecord p c = none := by
  unfold bannerRecord
  split
  next r hr =>
    have hnone : DrawKind.ofCode r.kind = none := Option.not_isSome_iff_eq_none.mp (by simpa [isDrawCode] using h r hr)
    rw [hnone, Option.map_none]
  next => rfl

theorem bannerRead_end {s : State} {c : Nat} (h : s.power.bannerLength ≤ c) : s.bannerRead c = s.endPlay := if_pos h

theorem bannerRead_broken {s : State} {c : Nat} (hc : c < s.power.bannerLength) (h : bannerRecord s.power c = none) :
    s.bannerRead c = (s.count .malformed).endPlay := by
  simp only [State.bannerRead, if_neg (Nat.not_le_of_lt hc), h]

/-- A draw record is examined as in a DRAW frame, with the sequence of a refusal absent, and the player holds the engine
for its outcome (R92, R162). -/
theorem bannerRead_draw {s : State} {c : Nat} {k : DrawKind} {r : Record} (hc : c < s.power.bannerLength)
    (h : bannerRecord s.power c = some (k, r)) {o : DrawOutcome} (ho : o = examineDraw k s.engine.pens s.panes r.body) :
    s.bannerRead c =
      { s.noteOutcome o r.kind r.tag none with
        power := { s.power with bannerCursor := some c }
        engine := { s.engine with holder := .banner, job := o.job? } } := by
  obtain ⟨-, -, -, -, -, -, hengine, -, -, -, -, -, -, hpower, -⟩ := State.noteOutcome_frame s o r.kind r.tag none
  subst ho
  simp only [State.bannerRead, if_neg (Nat.not_le_of_lt hc), h, State.setEngine, hengine, hpower]

theorem exec_bannerDelayExpiry {s : State} {t : Nat} (hr : s.resetLine = false) (ho : s.power.outage = some t)
    (ht : s.power.bannerDelay ≤ t) (hp : s.power.bannerPlayed = false) (hd : s.power.bannerDue = false) :
    exec .bannerDelayExpiry s = .next s.bannerReached := by
  rw [exec, execBannerDelayExpiry, onEvent_occurs hr ((bannerDelayReached_iff s).mpr ⟨hp, hd, t, ho, ht⟩)]

/-- The grant of the engine to a due play (R74, R161). -/
theorem exec_bannerGrant {s : State} (hr : s.resetLine = false) (hd : s.power.bannerDue = true)
    (hh : s.engine.holder = .free) (ha : s.power.device = .active) (hq : s.rxq.frames = []) (hi : s.dec.state = .idle) :
    exec .bannerGrant s = .next
      (if s.panel.state = .off ∨ s.panel.state.isStopping = true ∨ s.power.bannerLength = 0 then
        { s with power := { s.power with bannerDue := false, bannerPlayed := true } }
      else State.bannerRead { s with power := { s.power with bannerDue := false, bannerPlayed := true } } 0) := by
  rw [exec, execBannerGrant, onEvent_occurs hr (by simp [bannerGrantDue, hd, hh, ha, hq, hi])]

/-- The engine's outcome for the stored record: what is left of its set is dealt with, and the player reads on (R162). -/
theorem exec_bannerRecordDone {s : State} {c : Nat} {k : DrawKind} {r : Record} (hr : s.resetLine = false)
    (hh : s.engine.holder = .banner) (hc : s.power.bannerCursor = some c) (hrec : bannerRecord s.power c = some (k, r)) :
    exec .bannerRecordDone s =
      .next ((s.engine.job.elim s s.finishJob).bannerRead (c + 4 + 4 * r.body.length)) := by
  rw [exec, execBannerRecordDone, onEvent_occurs hr (by simp [hh])]
  cases s.engine.job <;> simp only [hc, hrec, Record.extent, Nat.add_assoc, Option.elim]

/-- Settles O42. -/
theorem bannerPlay : Obligations.BannerPlay := by
  refine ⟨⟨fun s t hr ho ht hp hd => ?_, fun s hr hd hh ha hq hi => ⟨_, rfl, fun hend => ?_, fun hoff hstop hlen => ?_⟩⟩,
    ?_, fun s c r hr hh hc hread hk => ?_⟩
  · rw [exec_bannerDelayExpiry hr ho ht hp hd, State.bannerReached]
    split <;> rfl
  · rw [exec_bannerGrant hr hd hh ha hq hi, if_pos hend]
  · rw [exec_bannerGrant hr hd hh ha hq hi, if_neg (by simp [hoff, hstop, hlen])]
  · rintro s c list rfl ended rfl
    refine ⟨bannerRead_end, fun hc hnone => ?_, fun r k hc hread hk o ho => ?_⟩
    · rw [bannerRead_broken hc (bannerRecord_eq_none hnone), count_one]
      rfl
    · exact bannerRead_draw hc (bannerRecord_of_draw hread (hk ▸ drawKindOfCode_code k)) ho
  · obtain ⟨k, hk⟩ := Option.isSome_iff_exists.mp hk
    have hdone := exec_bannerRecordDone hr hh hc (bannerRecord_of_draw hread hk)
    exact ⟨fun hj => by rw [hdone, hj, Option.elim_none], fun job hj => by rw [hdone, hj, Option.elim_some]⟩

end Sys2Proof.Machine

namespace Sys2Proof.Machine

open Sys2Proof.Statements

set_option Elab.async false

/-! # A drawn record paints by the pixel rule (R60 to R70, R82 to R91) -/

/-! ## What a touch may change (R21, R54, R98, R99) -/

/-- Between the two states only pixels were written and touched: beside the store, the digests and the digest unit's work,
and what a request that is then complete leaves in its reply slot and in the counters. -/
structure OnlyTouched (s t : State) : Prop where
  state : t = { s with
    store := t.store
    panes := t.panes
    digest := t.digest
    dec := { s.dec with slots := t.dec.slots }
    status := { s.status with counters := t.status.counters } }
  panes : ∀ n < 16, t.panes.get n = { s.panes.get n with digest := (t.panes.get n).digest }

namespace OnlyTouched

theorem refl (s : State) : OnlyTouched s s := ⟨rfl, fun _ _ => rfl⟩

theorem trans {s t u : State} (h : OnlyTouched s t) (h' : OnlyTouched t u) : OnlyTouched s u where
  state := by
    refine h'.state.trans ?_
    rw [h.state]
  panes n hn := by rw [h'.panes n hn, h.panes n hn]

theorem setDigestState (s : State) (n : Nat) (d : DigestState) : OnlyTouched s (s.setDigestState n d) where
  state := rfl
  panes m hm := by
    rw [State.setDigestState, State.modifyPane, Table.get_modify]
    split <;> rfl

theorem examineRequest (s : State) : OnlyTouched s s.examineRequest := by
  unfold State.examineRequest State.finishReply
  (repeat' split) <;> exact ⟨rfl, fun _ _ => rfl⟩

theorem digestGoOn (s : State) : OnlyTouched s s.digestGoOn := by
  unfold State.digestGoOn
  split
  next n _ =>
    exact trans (t := { s with digest := { s.digest with pendingSet := s.digest.pendingSet.set n false, running := some n } })
      ⟨rfl, fun _ _ => rfl⟩ (setDigestState _ _ _)
  next => exact examineRequest s

theorem abandonRun (s : State) : OnlyTouched s s.abandonRun :=
  trans (t := { s with digest := { s.digest with running := none } }) ⟨rfl, fun _ _ => rfl⟩ (digestGoOn _)

theorem touchWhere (s : State) (hit : Pane → Bool) : OnlyTouched s (s.touchWhere hit) := by
  have hpanes : OnlyTouched s { s with panes := s.panes.mapIdx (fun _ p => p.touchedBy hit) } :=
    ⟨rfl, fun n hn => by rw [Table.get_mapIdx _ _ hn]; exact touchedBy_digest _ _⟩
  unfold State.touchWhere
  dsimp only
  split
  · exact hpanes.trans (abandonRun _)
  · exact hpanes

theorem paintPixel (s : State) (job : Job) (o : Nat × Nat) : OnlyTouched s (s.paintPixel job o) := by
  have hwrite : OnlyTouched s (s.writePixel (job.column o.1) (job.row o.2) (job.result s.store o.1 o.2)) :=
    ⟨rfl, fun _ _ => rfl⟩
  unfold State.paintPixel
  dsimp only
  split
  · exact hwrite.trans (touchWhere _ _)
  · exact hwrite

theorem paint (s : State) (job : Job) (os : List (Nat × Nat)) : OnlyTouched s (s.paint job os) :=
  List.foldlRecOn (motive := OnlyTouched s) os _ (refl s) fun _ h o _ => h.trans (paintPixel _ job o)

end OnlyTouched

theorem finishJob_store (s : State) (job : Job) : (s.finishJob job).store = (s.paint job job.todo).store := by
  unfold State.finishJob
  dsimp only
  split <;> rfl

/-- A job finished, and the engine given back. -/
theorem finishJob_setEngine (s : State) (job : Job) (holder : Holder) :
    (s.finishJob job).setEngine holder none =
      { s with
        store := (s.finishJob job).store
        panes := (s.finishJob job).panes
        digest := (s.finishJob job).digest
        dec := { s.dec with slots := (s.finishJob job).dec.slots }
        status := { s.status with counters := (s.finishJob job).status.counters }
        engine := { s.engine with holder := holder, job := none } } := by
  have hpaint := (OnlyTouched.paint s job job.todo).state
  unfold State.finishJob
  dsimp only
  generalize s.paint job job.todo = t at hpaint ⊢
  split <;> rw [hpaint] <;> rfl

/-- Of a pane's entry a finished job changes the digest, and a CLEAR of it the lost field (R54, R82). -/
theorem finishJob_panes (s : State) (job : Job) {n : Nat} (hn : n < 16) :
    (s.finishJob job).panes.get n =
      { s.panes.get n with
        digest := ((s.finishJob job).panes.get n).digest
        lost := (s.panes.get n).lost && !(decide (job.kind = .clear) && decide (n = job.pane)) } := by
  have hpaint := (OnlyTouched.paint s job job.todo).panes n hn
  unfold State.finishJob
  dsimp only
  split
  next hk =>
    rw [State.modifyPane, Table.get_modify]
    by_cases hp : job.pane = n
    · rw [if_pos ⟨hp, hp ▸ hn⟩, hpaint]
      simp [hk, hp]
    · rw [if_neg fun h => hp h.1, hpaint]
      simp [Ne.symm hp]
  next hk =>
    rw [hpaint]
    simp [hk]

/-! ## The operand, plane by plane (R63, R83 to R86) -/

/-- Planes set one after another: those of the list for which the bit is 1, beside those that were set. -/
theorem getLsbD_foldl_planes (bit : Nat → Bool) (planes : List Nat) (a : Byte) {p : Nat} (hp : p < 8) :
    (planes.foldl (fun a q => if bit q then a ||| (1#8 <<< q) else a) a).getLsbD p =
      (a.getLsbD p || (decide (p ∈ planes) && bit p)) := by
  induction planes generalizing a with
  | nil => simp
  | cons q planes ih =>
    have hone : (1#8 <<< q).getLsbD p = decide (p = q) := by
      rw [BitVec.getLsbD_shiftLeft, BitVec.getLsbD_one]
      by_cases hq : p = q <;> simp [hq] <;> omega
    rw [List.foldl_cons, ih]
    by_cases hq : p = q
    · subst hq
      cases hb : bit p <;> simp [hone]
    · cases bit q <;> simp [hone, hq]

/-- The PLANES operand of an offset (R85, R86). -/
theorem getLsbD_planesOperand (job : Job) (i j : Nat) {p : Nat} (hp : p < 8) :
    (job.planesOperand i j).getLsbD p = (job.pen.planeMask.getLsbD p && job.planeBit p i j) := by
  rw [Job.planesOperand, getLsbD_foldl_planes _ _ _ hp]
  simp [planesOfMask, hp]

theorem rectangleJob_planeBit (pen : Pen) (pane : Pane) (body : List Word) (p i j : Nat) :
    (rectangleJob .planes pen pane body).planeBit p i j = planeAt pen body p i j := by
  have hrank : planeRank pen.planeMask p = (List.range p).countP (fun q => pen.planeMask.getLsbD q) :=
    List.countP_eq_length_filter.symm
  rw [planeAt, ← hrank, ← popcount_eq, ← Nat.add_mul]
  exact dataBit_usedData pen body _ i

/-- The operand of an offset of a rectangle, over the store as it stood before the record. -/
theorem rectangleJob_operand {k : DrawKind} (hk : k ≠ .clear) (pen : Pen) (pane : Pane) (body : List Word) (s : State)
    (i j : Nat) {p : Nat} (hp : p < 8) :
    ((rectangleJob k pen pane body).operand s.store i j).getLsbD p = operandBit s k pen body i j p := by
  cases k with
  | clear => exact absurd rfl hk
  | fill | move | keymove => rfl
  | glyph =>
    have hbit : (rectangleJob .glyph pen pane body).glyphBit i j = glyphAt pen body i j := dataBit_usedData pen body _ i
    change BitVec.getLsbD (if (rectangleJob .glyph pen pane body).glyphBit i j then pen.fg else pen.bg) p = _
    rw [hbit, operandBit]
    split <;> rfl
  | planes =>
    refine (getLsbD_planesOperand _ i j hp).trans ?_
    rw [rectangleJob_planeBit]
    rfl

/-! ## What the whole of a rectangle leaves in the store (R61, R66, R89, R90) -/

theorem paint_append (s : State) (job : Job) (os os' : List (Nat × Nat)) :
    s.paint job (os ++ os') = (s.paint job os).paint job os' := List.foldl_append

section

variable {s : State} {k : DrawKind} {pane : Pane} {body : List Word} {pre post : List (Nat × Nat)} {o : Nat × Nat}

/-- The operand of an offset is as it was before the record, whatever offsets come before it (R89, R90). -/
theorem rectangleJob_operand_stable (hwf : Memory.wf s.store = true) (pen : Pen) (hfits : pane.left + pane.width ≤ 1280)
    (ho : destinationOf k pane body = pre ++ o :: post) :
    (rectangleJob k pen pane body).operand (s.paint (rectangleJob k pen pane body) pre).store o.1 o.2 =
      (rectangleJob k pen pane body).operand s.store o.1 o.2 := by
  cases k with
  | move => exact rectangleJob_source_stable hwf rfl pen hfits body ho
  | keymove => exact rectangleJob_source_stable hwf rfl pen hfits body ho
  | fill | clear | glyph | planes => rfl

theorem rectangleJob_covers (pen : Pen) (hx : pane.left + pane.width ≤ 1280) (hy : pane.top + pane.height ≤ 1536)
    (h : o ∈ destinationOf k pane body) : (rectangleJob k pen pane body).covers o :=
  rectangleJob_inStore hx hy k pen body o h

/-- Two offsets of a destination set have two addresses. -/
theorem rectangleJob_address_inj (pen : Pen) (hx : pane.left + pane.width ≤ 1280) (hy : pane.top + pane.height ≤ 1536)
    {o' : Nat × Nat} (h : o ∈ destinationOf k pane body) (h' : o' ∈ destinationOf k pane body)
    (heq : (rectangleJob k pen pane body).address o' = (rectangleJob k pen pane body).address o) : o' = o := by
  obtain ⟨hcolumn, hrow⟩ := pixelAddress_inj (rectangleJob_covers pen hx hy h').column_lt
    (rectangleJob_covers pen hx hy h).column_lt heq
  obtain ⟨hc, hr⟩ := rectangleJob_column (pen := pen) h
  obtain ⟨hc', hr'⟩ := rectangleJob_column (pen := pen) h'
  exact Prod.ext (by omega) (by omega)

/-- Once the whole set is dealt with, each of its pixels holds what the pixel rule gives over the store before the
record. -/
theorem readCell_paint_rectangleJob (hwf : Memory.wf s.store = true) (pen : Pen) (hx : pane.left + pane.width ≤ 1280)
    (hy : pane.top + pane.height ≤ 1536) (h : o ∈ destinationOf k pane body) :
    readCell (s.paint (rectangleJob k pen pane body) (destinationOf k pane body)).store
        ((rectangleJob k pen pane body).address o) =
      (rectangleJob k pen pane body).result s.store o.1 o.2 := by
  obtain ⟨pre, post, ho⟩ := List.append_of_mem h
  have hoperand := rectangleJob_operand_stable hwf pen hx ho
  have hother : ∀ o' ∈ pre ++ post, (rectangleJob k pen pane body).address o' ≠ (rectangleJob k pen pane body).address o :=
    fun o' ho' heq => by
      have hmem : o' ∈ destinationOf k pane body := by
        rw [ho, List.mem_append, List.mem_cons]
        exact (List.mem_append.mp ho').imp id .inr
      have hnodup := List.nodup_middle.mp (ho ▸ destinationOf_nodup k pane body)
      exact (List.nodup_cons.mp hnodup).1 (rectangleJob_address_inj pen hx hy h hmem heq ▸ ho')
  have hlatch := readCell_paint_of_not_mem hwf (rectangleJob k pen pane body) (os := pre)
    fun o' ho' => hother o' (List.mem_append_left _ ho')
  have hpre : Memory.wf (s.paint (rectangleJob k pen pane body) pre).store = true := paint_wf hwf _ _
  have hdone : Memory.wf ((s.paint (rectangleJob k pen pane body) pre).paintPixel (rectangleJob k pen pane body) o).store =
      true := paint_wf hpre _ [o]
  rw [ho, paint_append, paint_cons,
    readCell_paint_of_not_mem hdone _ fun o' ho' => hother o' (List.mem_append_right _ ho'),
    paintPixel_cell, readCell_paintCell hpre, if_pos rfl, Job.result, Job.enable, hoperand, ← Job.address, hlatch]
  rfl

end

/-! ## The pixels that a record covers (R80, R82, R88) -/

/-- The offset of a pixel that a record with a rectangle writes. -/
theorem offset_of_writes {s : State} {k : DrawKind} (hk : k ≠ .clear) (pen : Pen) {body : List Word} {x y : Nat}
    (h : writes s k body x y) :
    (offsetX s body x, offsetY s body y) ∈ destinationOf k (s.panes.get (recPane body)) body ∧
      (rectangleJob k pen (s.panes.get (recPane body)) body).column (offsetX s body x) = x ∧
      (rectangleJob k pen (s.panes.get (recPane body)) body).row (offsetY s body y) = y := by
  rw [writes, if_neg hk] at h
  obtain ⟨hi0, -, hj0, -⟩ := id h
  have hi : (offsetX s body x : Int) = x - ((s.panes.get (recPane body)).left + recX body) := Int.toNat_of_nonneg hi0
  have hj : (offsetY s body y : Int) = y - ((s.panes.get (recPane body)).top + recY body) := Int.toNat_of_nonneg hj0
  rw [← hi, ← hj] at h
  have ho := mem_destinationOf_iff.mpr h
  obtain ⟨hcolumn, hrow⟩ := rectangleJob_column (pen := pen) ho
  exact ⟨ho, by omega, by omega⟩

theorem writes_of_offset {s : State} {k : DrawKind} (hk : k ≠ .clear) (pen : Pen) {body : List Word} {o : Nat × Nat}
    (ho : o ∈ destinationOf k (s.panes.get (recPane body)) body) :
    writes s k body ((rectangleJob k pen (s.panes.get (recPane body)) body).column o.1)
      ((rectangleJob k pen (s.panes.get (recPane body)) body).row o.2) := by
  obtain ⟨hcolumn, hrow⟩ := rectangleJob_column (pen := pen) ho
  rw [writes, if_neg hk, hcolumn, hrow, add_sub_cancel_left, add_sub_cancel_left]
  exact mem_destinationOf_iff.mp ho

/-! ## The pixel rule (R62 to R66) -/

/-- Bit p of the index that a record leaves in a pixel it covers, over the store as it stood before the record. -/
def ruleBit (s : State) (k : DrawKind) (body : List Word) (x y p : Nat) : Bool :=
  let pen := penInForce s k body
  if pen.planeMask.getLsbD p && enabled s k pen body x (offsetX s body x) (offsetY s body y) then
    aluBit pen.alu (operandBit s k pen body (offsetX s body x) (offsetY s body y) p) ((s.pixel x y).getLsbD p)
  else (s.pixel x y).getLsbD p

/-- CLEAR writes the fill colour in every plane (R71). -/
theorem ruleBit_clear (s : State) (body : List Word) (x y : Nat) {p : Nat} (hp : p < 8) :
    ruleBit s .clear body x y p = (s.panes.get (recPane body)).fill.getLsbD p := by
  have hmask : (0xFF : Byte).getLsbD p = true := (by decide : ∀ b < 8, (0xFF : Byte).getLsbD b = true) p hp
  have hstipple : (0xFFFFFFFF#32).getLsbD (31 - x % 32) = true :=
    (by decide : ∀ b < 32, (0xFFFFFFFF#32).getLsbD b = true) _ (by omega)
  have hpen : penInForce s .clear body = penless (s.panes.get (recPane body)).fill := if_pos rfl
  simp only [ruleBit, hpen, enabled, penless, hmask, hstipple, Bool.and_true, if_true]
  rfl

/-- What the engine writes at an offset of a rectangle is what the pixel rule gives. -/
theorem rectangleJob_result {s : State} {k : DrawKind} (hk : k ≠ .clear) {body : List Word} {x y p : Nat} (hp : p < 8)
    (h : writes s k body x y) :
    ((rectangleJob k (s.engine.pens.get (recPen body)) (s.panes.get (recPane body)) body).result s.store
        (offsetX s body x) (offsetY s body y)).getLsbD p = ruleBit s k body x y p := by
  obtain ⟨-, hcolumn, hrow⟩ := offset_of_writes hk (s.engine.pens.get (recPen body)) h
  have hpen : penInForce s k body = s.engine.pens.get (recPen body) := if_neg hk
  rw [Job.result, getLsbD_newIndex _ _ _ _ hp, rectangleJob_enable _ _ _ hk, rectangleJob_operand hk _ _ _ _ _ _ hp, hcolumn,
    hrow, ruleBit, hpen]
  rfl

/-- Once the job of a drawn record is dealt with whole, every pixel that it covers is as the pixel rule gives, and every
other as it was. -/
theorem grantedJob_paints {s : State} (hs : StoreSound s) {k : DrawKind} {body : List Word} {job : Job}
    (hjob : (examineDraw k s.engine.pens s.panes body).job? = some job) {x y : Nat} (hx : x < 1280) :
    (writes s k body x y → ∀ p < 8,
      (readCell (s.paint job job.todo).store (pixelAddress x y)).getLsbD p = ruleBit s k body x y p) ∧
    (¬ writes s k body x y → readCell (s.paint job job.todo).store (pixelAddress x y) = s.pixel x y) := by
  obtain ⟨hfitsX, hfitsY⟩ := hs.panes.fits (recPane body)
  rcases examineDraw_drawn hjob with ⟨rfl, rfl⟩ | ⟨hk, rfl⟩
  · have hcovers : (∃ o ∈ (clearJob (recPane body) (s.panes.get (recPane body))).todo,
        (clearJob (recPane body) (s.panes.get (recPane body))).address o = pixelAddress x y) ↔ _ :=
      exists_wholePane_iff hfitsX (recPane body) hx
    have hwrites : writes s .clear body x y ↔ (s.panes.get (recPane body)).contains x y = true := by
      rw [writes, if_pos rfl]
    rw [readCell_paint_clearJob hs.canonical, hwrites]
    refine ⟨fun hc p hp => ?_, fun hc => if_neg (mt hcovers.mp hc)⟩
    rw [if_pos (hcovers.mpr hc), ruleBit_clear _ _ _ _ hp]
  · refine ⟨fun hw p hp => ?_, fun hw => ?_⟩
    · obtain ⟨ho, hcolumn, hrow⟩ := offset_of_writes hk (s.engine.pens.get (recPen body)) hw
      have hpixel := readCell_paint_rectangleJob hs.canonical (s.engine.pens.get (recPen body)) hfitsX hfitsY ho
      rw [Job.address, hcolumn, hrow] at hpixel
      exact (congrArg (fun b => BitVec.getLsbD b p) hpixel).trans (rectangleJob_result hk hp hw)
    · refine readCell_paint_of_not_mem hs.canonical _ fun o ho heq => hw ?_
      obtain ⟨rfl, rfl⟩ := pixelAddress_inj (rectangleJob_covers _ hfitsX hfitsY ho).column_lt hx heq
      exact writes_of_offset hk _ ho

/-! ## From the record's step to DRAW_COMPLETE (R60, R73) -/

/-- A pixel that is not left in the destination set of the record in hand keeps its index. -/
theorem finishJob_pixel_of_not_left {s : State} (hs : StoreSound s) {job : Job} (hj : s.engine.job = some job) {x y : Nat}
    (hx : x < 1280) (hleft : ∀ o ∈ job.todo, ¬ (job.left + o.1 = x ∧ job.top + o.2 = y)) :
    (s.finishJob job).pixel x y = s.pixel x y := by
  rw [State.pixel, finishJob_store]
  refine readCell_paint_of_not_mem hs.canonical job fun o ho heq => hleft o ho ?_
  have hin : job.covers o := hs.job job hj o ho
  obtain ⟨hcolumn, hrow⟩ := pixelAddress_inj hin.column_lt hx heq
  obtain ⟨hx0, -, hy0, -⟩ := hin
  rw [Job.column] at hcolumn
  rw [Job.row] at hrow
  omega

/-- The record's first offsets dealt with on the way and the rest at DRAW_COMPLETE: the store is as after the whole set. -/
theorem finishJob_drop_store {s t v : State} {job : Job} {m : Nat} (ht : t.store = s.store)
    (hv : v.store = (t.paint job (job.todo.take m)).store) :
    (v.finishJob { job with todo := job.todo.drop m }).store = (s.paint job job.todo).store := by
  rw [finishJob_store, paint_store s, ← ht, ← paint_store t]
  exact paint_drop_store hv

/-- Settles O35. -/
theorem drawnRecordPaintsByPixelRule : Obligations.DrawnRecordPaintsByPixelRule := by
  refine ⟨fun s f r job hat hh hj => ⟨_, exec_drawComplete hat hh hj, by simp [State.setEngine], fun hs x y hx _ hleft =>
    finishJob_pixel_of_not_left hs hj hx hleft⟩, ?_⟩
  intro s t v f r k job m hs h hx hth htj hat hvh hvj hstore
  obtain ⟨o, job', hjob, rfl⟩ := exec_draw_job h hx hth
  obtain rfl : job' = job := Option.some.inj htj
  refine ⟨_, exec_drawComplete hat hvh hvj, finishJob_setEngine _ _ _, fun x y hxl _ => ?_, fun n hn => ?_⟩
  · have hpainted := finishJob_drop_store (s := s) (by simp) hstore
    rw [State.pixel, State.setEngine_store, hpainted]
    exact grantedJob_paints hs hjob hxl
  · rw [State.setEngine_panes, finishJob_panes v _ hn]
    rcases examineDraw_drawn hjob with ⟨rfl, rfl⟩ | ⟨hk, rfl⟩ <;> rfl

end Sys2Proof.Machine

namespace Sys2Proof.Machine

set_option Elab.async false

/-! # What the digest unit agrees with: panes in preparation and reserved slots (R33, R94 to R99) -/

/-! ## The parts that matter -/

/-- The pending set, the running pane and the request: what of the digest unit does not depend on its work. -/
def DigestUnit.tasks (d : DigestUnit) : Table Bool 16 × Option Nat × Option DigestRequest :=
  (d.pendingSet, d.running, d.request)

/-- What of a pane's entry the digest unit must agree with: nothing, unless its digest is PENDING or RUNNING. -/
def Pane.stage (p : Pane) : Option (DigestState × Bool) :=
  if p.digest.inPreparation then some (p.digest, p.valid) else none

/-- The stages of the panes of a table. -/
def stages (panes : Table Pane 16) (n : Nat) : Option (DigestState × Bool) := (panes.get n).stage

/-- The slot is RESERVED. -/
def Slot.isReserved : Slot → Bool
  | .reserved _ _ => true
  | .free => false
  | .finished _ _ _ _ _ => false

/-- Which slots of a table are RESERVED. -/
def reservations (slots : Table Slot 4) (n : Nat) : Bool := (slots.get n).isReserved

theorem tasks_eq_iff {d e : DigestUnit} :
    d.tasks = e.tasks ↔ d.pendingSet = e.pendingSet ∧ d.running = e.running ∧ d.request = e.request := by
  simp only [DigestUnit.tasks, Prod.mk.injEq]

theorem isReserved_iff (sl : Slot) : sl.isReserved = true ↔ ∃ k t, sl = .reserved k t := by
  cases sl <;> simp [Slot.isReserved]

theorem reservations_eq_true {slots : Table Slot 4} {n : Nat} :
    reservations slots n = true ↔ ∃ k t, slots.get n = .reserved k t := isReserved_iff _

/-! ## Stages -/

theorem stage_eq_none {p : Pane} : p.stage = none ↔ p.digest.inPreparation = false := by
  unfold Pane.stage
  split <;> simp_all

theorem digest_ne_of_stage {p : Pane} (h : p.stage = none) {d : DigestState} (hd : d.inPreparation = true) :
    p.digest ≠ d := by
  rintro rfl
  simp [stage_eq_none.mp h] at hd

theorem stage_eq_some {p : Pane} {d : DigestState} {v : Bool} :
    p.stage = some (d, v) ↔ d.inPreparation = true ∧ p.digest = d ∧ p.valid = v := by
  unfold Pane.stage
  split
  next h =>
    rw [Option.some.injEq, Prod.mk.injEq, iff_and_self]
    rintro ⟨rfl, -⟩
    exact h
  next h =>
    refine iff_of_false (by simp) ?_
    rintro ⟨hd, rfl, -⟩
    exact h hd

/-- Entries of one stage are PENDING, RUNNING and, in preparation, valid together. -/
theorem of_stage_eq {p q : Pane} (h : p.stage = q.stage) :
    (∀ d, d.inPreparation = true → (p.digest = d ↔ q.digest = d)) ∧
      p.digest.inPreparation = q.digest.inPreparation ∧ (p.digest.inPreparation = true → p.valid = q.valid) := by
  cases hq : q.stage with
  | none =>
    have hp := h.trans hq
    have hp' := stage_eq_none.mp hp
    exact ⟨fun d hd => iff_of_false (digest_ne_of_stage hp hd) (digest_ne_of_stage hq hd),
      hp'.trans (stage_eq_none.mp hq).symm, fun ht => by simp [hp'] at ht⟩
  | some x =>
    obtain ⟨hx, hpd, hpv⟩ := stage_eq_some.mp (h.trans hq)
    obtain ⟨-, hqd, hqv⟩ := stage_eq_some.mp hq
    exact ⟨fun d _ => by rw [hpd, hqd], by rw [hpd, hqd], fun _ => hpv.trans hqv.symm⟩

/-- There is nothing in preparation beyond the table. -/
theorem stage_beyond (panes : Table Pane 16) {n : Nat} (h : 16 ≤ n) : (panes.get n).stage = none := by
  rw [Table.get_beyond _ h]
  rfl

/-- Tables of one stage in every entry are alike beyond their end too. -/
theorem stages_eq {t u : Table Pane 16} (h : ∀ n < 16, (t.get n).stage = (u.get n).stage) : stages t = stages u := by
  funext n
  by_cases hn : n < 16
  · exact h n hn
  · exact (stage_beyond t (by omega)).trans (stage_beyond u (by omega)).symm

theorem stages_modify {f : Pane → Pane} (hf : ∀ p, (f p).stage = p.stage) (panes : Table Pane 16) (n : Nat) :
    stages (panes.modify n f) = stages panes := by
  refine stages_eq fun m _ => ?_
  rw [Table.get_modify]
  split
  · exact hf _
  · rfl

theorem stages_mapIdx {f : Nat → Pane → Pane} (hf : ∀ n p, (f n p).stage = p.stage) (panes : Table Pane 16) :
    stages (panes.mapIdx f) = stages panes :=
  stages_eq fun m hm => by rw [Table.get_mapIdx _ _ hm, hf]

/-! ## What leaves the stages as they are -/

@[simp] theorem dropDozeDigests_stages (s : State) : stages s.dropDozeDigests.panes = stages s.panes :=
  stages_mapIdx (by intros; rfl) _

@[simp] theorem abandonPass_stages (s : State) : stages s.abandonPass.panes = stages s.panes := by
  unfold State.abandonPass
  split
  · exact dropDozeDigests_stages _
  all_goals rfl

@[simp] theorem enterDoze_tasks (s : State) :
    s.enterDoze.panes = s.panes ∧ s.enterDoze.digest.tasks = s.digest.tasks := by
  simp [State.enterDoze, State.setWork, State.setDevice, DigestUnit.tasks]

@[simp] theorem abandonPass_tasks (s : State) : s.abandonPass.digest.tasks = s.digest.tasks := by
  unfold State.abandonPass
  split <;> rfl

@[simp] theorem abortDoze_tasks (s : State) :
    stages s.abortDoze.panes = stages s.panes ∧ s.abortDoze.digest.tasks = s.digest.tasks := by
  simp [State.abortDoze, State.setDevice]

@[simp] theorem admission_tasks (s : State) (f : RxFrame) :
    stages (s.admission f).panes = stages s.panes ∧ (s.admission f).digest.tasks = s.digest.tasks := by
  unfold State.admission State.admitFrame
  split
  · simp
  · dsimp only
    split <;> simp

@[simp] theorem keepFrame_tasks (s : State) (kind flags sequence : Byte) (payload : List Byte) :
    stages (s.keepFrame kind flags sequence payload).panes = stages s.panes ∧
      (s.keepFrame kind flags sequence payload).digest.tasks = s.digest.tasks := by
  unfold State.keepFrame
  dsimp only
  split <;> simp

@[simp] theorem endFrame_tasks (s : State) (buffer : List Byte) :
    stages (s.endFrame buffer).panes = stages s.panes ∧ (s.endFrame buffer).digest.tasks = s.digest.tasks := by
  unfold State.endFrame State.classify
  dsimp only
  (repeat' split) <;> simp

@[simp] theorem endCheck_tasks (s : State) (anyLost : Bool) :
    stages (s.endCheck anyLost).panes = stages s.panes ∧ (s.endCheck anyLost).digest.tasks = s.digest.tasks := by
  have hdropped : stages ((s.dropDozeDigests).setWork .idle).panes = stages s.panes ∧
      ((s.dropDozeDigests).setWork .idle).digest.tasks = s.digest.tasks := ⟨dropDozeDigests_stages s, rfl⟩
  unfold State.endCheck
  cases anyLost <;> simpa [State.setDevice] using hdropped

/-! ## What leaves the reserved slots as they are -/

@[simp] theorem setSlot_reservations (s : State) (n : Nat) (v : Slot) :
    reservations (s.setSlot n v).dec.slots =
      Function.update (reservations s.dec.slots) n (decide (n < 4) && v.isReserved) := by
  funext m
  simp only [reservations, State.setSlot, Table.get_set, Function.update_apply]
  by_cases hm : m = n
  · subst hm
    by_cases h4 : m < 4
    · simp [h4]
    · simp only [h4, and_false, if_false, Table.get_beyond _ (Nat.le_of_not_lt h4)]
      rfl
  · simp [hm, Ne.symm hm]

/-- A slot that is not RESERVED is left so where a reply is finished into it (R33). -/
@[simp] theorem finishReply_reservations (s : State) (n : Nat) (k t : Byte) (e : ReplyStatus) (b : List Word) :
    reservations (s.finishReply n k t e b).dec.slots = Function.update (reservations s.dec.slots) n false := by
  unfold State.finishReply
  split <;> simp [Slot.isReserved]

@[simp] theorem giveUpUpstream_reservations (s : State) :
    reservations s.giveUpUpstream.dec.slots = reservations s.dec.slots := by
  funext m
  rw [reservations, reservations]
  by_cases hm : m < 4
  · rw [giveUpUpstream_slot s hm]
    cases s.dec.slots.get m <;> rfl
  · rw [Table.get_beyond _ (by omega), Table.get_beyond _ (by omega)]

@[simp] theorem finishFrame_slots (s : State) : s.finishFrame.dec.slots = s.dec.slots := by
  rw [(finishFrame_rxq s).2.2]

@[simp] theorem setDecoder_slots (s : State) (d : DecoderState) : (s.setDecoder d).dec.slots = s.dec.slots := rfl

@[simp] theorem walkFrom_slots (s : State) (c : Nat) : (s.walkFrom c).dec.slots = s.dec.slots := by
  rcases walkFrom_cases s c with ⟨-, h⟩ | ⟨f, rest, -, ⟨-, h⟩ | ⟨-, h⟩⟩ <;> simp [h]

@[simp] theorem advance_slots (s : State) (r : Record) : (s.advance r).dec.slots = s.dec.slots := by
  unfold State.advance
  split <;> simp

@[simp] theorem releaseSync_slots (s : State) : s.releaseSync.dec.slots = s.dec.slots := by
  unfold State.releaseSync
  split <;> simp

@[simp] theorem stopPanel_slots (s : State) : s.stopPanel.dec.slots = s.dec.slots := by
  simp [State.stopPanel]

@[simp] theorem requestStop_slots (s : State) : s.requestStop.dec.slots = s.dec.slots := by
  unfold State.requestStop
  split <;> simp

@[simp] theorem panelAtFrameEnd_slots (s : State) : s.panelAtFrameEnd.dec.slots = s.dec.slots := by
  unfold State.panelAtFrameEnd State.reachRunning
  dsimp only
  (repeat' split) <;> simp

@[simp] theorem enterEntering_slots (s : State) : s.enterEntering.dec.slots = s.dec.slots := requestStop_slots _

@[simp] theorem enterDoze_slots (s : State) : s.enterDoze.dec.slots = s.dec.slots := requestStop_slots _

@[simp] theorem enterAbsent_reservations (s : State) :
    reservations s.enterAbsent.dec.slots = reservations s.dec.slots := by
  simp [State.enterAbsent]

@[simp] theorem refuseRecord_slots (s : State) (f : RxFrame) (r : Record) (e : Reason) :
    (s.refuseRecord f r e).dec.slots = s.dec.slots := by
  simp [State.refuseRecord]

@[simp] theorem bannerRead_slots (s : State) (cursor : Nat) : (s.bannerRead cursor).dec.slots = s.dec.slots := by
  unfold State.bannerRead
  split
  · simp
  · split <;> simp [noteOutcome_slots]

/-- An answer by a check and a body frees the slot it was given, or finishes a reply there (R35). -/
@[simp] theorem answerWith_reservations (s : State) (check : Record → Option Reason)
    (body : Record → State → List Word) (n : Nat) (f : RxFrame) (r : Record) :
    reservations (answerWith check body n f r s).dec.slots = Function.update (reservations s.dec.slots) n false := by
  unfold answerWith
  split <;> simp [State.refuseAsk]

@[simp] theorem answerStatus_reservations (s : State) (n : Nat) (f : RxFrame) (r : Record) :
    reservations (answerStatus n f r s).dec.slots = Function.update (reservations s.dec.slots) n false := by
  unfold answerStatus
  dsimp only
  split <;> simp

end Sys2Proof.Machine

namespace Sys2Proof.Machine

set_option Elab.async false

/-! # What every step keeps of the digest unit: its own operations (R50, R54, R96 to R100) -/

/-! ## With nothing changed -/

/-- What the digest unit agrees with stays as it is. -/
structure KeepsDigests (s t : State) : Prop where
  tasks : t.digest.tasks = s.digest.tasks := by simp
  panes : stages t.panes = stages s.panes := by simp
  slots : reservations t.dec.slots = reservations s.dec.slots := by simp

theorem DigestSound.congr {s t : State} (h : DigestSound s) (hk : KeepsDigests s t := by exact {}) : DigestSound t := by
  obtain ⟨htasks, hpanes, hslots⟩ := hk
  obtain ⟨hset, hrun, hreq⟩ := tasks_eq_iff.mp htasks
  have hstage : ∀ n, (t.panes.get n).stage = (s.panes.get n).stage := congrFun hpanes
  have hpending := fun n => (of_stage_eq (hstage n)).1 .pending rfl
  have hrunning := fun n => (of_stage_eq (hstage n)).1 .running rfl
  have hprep := fun n => (of_stage_eq (hstage n)).2.1
  have hvalid := fun n => (of_stage_eq (hstage n)).2.2
  obtain ⟨pending, running, runningPane, valid, atWork, goesOn, mask, slot⟩ := h
  simp only [← reservations_eq_true] at mask slot
  refine ⟨fun n hn => ?_, fun n hn => ?_, ?_, fun n hn hp => ?_, ?_, ?_, ?_, ?_⟩
  · rw [hset, hpending, pending n hn]
  · rw [hrun, hrunning, running n hn]
  · rwa [hrun]
  · rw [hvalid n hp]
    exact valid n hn (hprep n ▸ hp)
  · rw [hreq, hrun, atWork]
  · rwa [hrun, hset]
  · simpa only [hreq, hprep, ← reservations_eq_true, hslots] using mask
  · simpa only [hreq, ← reservations_eq_true, hslots] using slot

theorem DigestSound.setWork {s : State} (h : DigestSound s) (w : DigestWork) : DigestSound (s.setWork w) :=
  h.congr ⟨rfl, rfl, rfl⟩

/-! ## With no request outstanding -/

/-- No request: no pane is in preparation and no slot RESERVED. -/
structure NothingAsked (s : State) : Prop where
  request : s.digest.request = none
  running : s.digest.running = none
  pending : ∀ n < 16, s.digest.pendingSet.get n = false
  panes : ∀ n, (s.panes.get n).stage = none
  slots : ∀ m < 4, reservations s.dec.slots m = false

theorem NothingAsked.digestSound {s : State} (h : NothingAsked s) : DigestSound s := by
  obtain ⟨request, running, pending, panes, slots⟩ := h
  have hprep : ∀ n, (s.panes.get n).digest.inPreparation = false := fun n => stage_eq_none.mp (panes n)
  have hdigest : ∀ n (d : DigestState), d.inPreparation = true → (s.panes.get n).digest ≠ d := fun n _ =>
    digest_ne_of_stage (panes n)
  exact
    { pending := fun n hn => by simp [pending n hn, hdigest n .pending rfl]
      running := fun n hn => by simp [running, hdigest n .running rfl]
      runningPane := by simp [running]
      valid := fun n _ hp => by simp [hprep n] at hp
      atWork := by simp [request, running]
      goesOn := fun _ => pending
      mask := by simp [request]
      slot := fun m hm hr => by simp [← reservations_eq_true, slots m hm] at hr }

theorem DigestSound.nothingAsked {s : State} (h : DigestSound s) (hq : s.digest.request = none) : NothingAsked s := by
  have hrun : s.digest.running = none := by simpa [hq] using h.atWork
  have hset := h.goesOn hrun
  refine ⟨hq, hrun, hset, fun n => ?_, fun m hm => ?_⟩
  · by_cases hn : n < 16
    · rw [stage_eq_none, ← Bool.not_eq_true, inPreparation_iff, ← h.pending n hn, ← h.running n hn]
      simp [hset n hn, hrun]
    · exact stage_beyond _ (by omega)
  · rw [← Bool.not_eq_true, reservations_eq_true]
    intro hr
    obtain ⟨q, hsome, -⟩ := h.slot m hm hr
    simp [hq] at hsome

/-- No request, and one pane's entry changed to what is not in preparation either. -/
theorem NothingAsked.stages_modify {s : State} (h : NothingAsked s) {n : Nat} {f : Pane → Pane}
    (hf : (f (s.panes.get n)).stage = none) : stages (s.panes.modify n f) = stages s.panes := by
  refine stages_eq fun m _ => ?_
  rw [Table.get_modify, h.panes m]
  split
  next hm => rwa [← hm.1]
  next => exact h.panes m

/-! ## Between two runs (R97 to R99) -/

/-- A request is outstanding and no pane runs: the unit is about to go on. -/
structure BetweenRuns (s : State) (q : DigestRequest) : Prop where
  request : s.digest.request = some q
  running : s.digest.running = none
  pending : ∀ n < 16, s.digest.pendingSet.get n = true ↔ (s.panes.get n).digest = .pending
  noneRuns : ∀ n < 16, (s.panes.get n).digest ≠ .running
  valid : ∀ n < 16, (s.panes.get n).digest = .pending → (s.panes.get n).valid = true
  mask : ∀ n < 16, (s.panes.get n).digest = .pending → q.mask.getLsbD n = true
  slot : q.slot < 4
  reserved : ∀ m < 4, reservations s.dec.slots m = true ↔ m = q.slot

/-- The lowest-numbered pending pane runs (R97). -/
theorem BetweenRuns.run {s : State} {q : DigestRequest} (h : BetweenRuns s q) {n : Nat} (hn : n < 16)
    (hp : s.digest.pendingSet.get n = true) :
    DigestSound { s with
      digest := { s.digest with pendingSet := s.digest.pendingSet.set n false, running := some n }
      panes := s.panes.set n { s.panes.get n with digest := .running } } := by
  have hdigest := (h.pending n hn).mp hp
  have hself : (s.panes.set n { s.panes.get n with digest := .running }).get n =
      { s.panes.get n with digest := .running } := Table.get_set_self _ _ hn
  have hother : ∀ m, n ≠ m → (s.panes.set n { s.panes.get n with digest := .running }).get m = s.panes.get m :=
    fun m hm => Table.get_set_ne _ _ hm
  have hprep : ∀ m < 16, n ≠ m → (s.panes.get m).digest.inPreparation = true → (s.panes.get m).digest = .pending :=
    fun m hm _ hp => ((inPreparation_iff _).mp hp).resolve_right (h.noneRuns m hm)
  refine ⟨fun m hm => ?_, fun m hm => ?_, ?_, fun m hm hpm => ?_, ?_, ?_, fun q' hq' => ?_, fun m hm hr => ?_⟩
  · dsimp only
    by_cases hnm : n = m
    · subst hnm
      simp [hself, Table.get_set_self _ _ hn]
    · rw [hother m hnm, Table.get_set_ne _ _ hnm]
      exact h.pending m hm
  · dsimp only
    by_cases hnm : n = m
    · subst hnm
      simp [hself]
    · rw [hother m hnm]
      exact iff_of_false (by simpa using hnm) (h.noneRuns m hm)
  · rintro m hm
    obtain rfl : n = m := Option.some.inj hm
    exact hn
  · dsimp only at hpm ⊢
    by_cases hnm : n = m
    · subst hnm
      rw [hself]
      exact h.valid n hn hdigest
    · rw [hother m hnm] at hpm ⊢
      exact h.valid m hm (hprep m hm hnm hpm)
  · simp [h.request]
  · rintro ⟨⟩
  · obtain rfl : q = q' := Option.some.inj (h.request.symm.trans hq')
    refine ⟨h.slot, reservations_eq_true.mp ((h.reserved _ h.slot).mpr rfl), fun m hm hpm => ?_⟩
    dsimp only at hpm
    by_cases hnm : n = m
    · subst hnm
      exact h.mask n hn hdigest
    · rw [hother m hnm] at hpm
      exact h.mask m hm (hprep m hm hnm hpm)
  · exact ⟨q, h.request, ((h.reserved m hm).mp (reservations_eq_true.mpr hr)).symm⟩

/-- With none pending the request is complete, and its slot no longer RESERVED (R99). -/
theorem BetweenRuns.complete {s : State} {q : DigestRequest} (h : BetweenRuns s q)
    (hnone : ∀ n < 16, s.digest.pendingSet.get n = false) : NothingAsked s.examineRequest := by
  have hpending : ∀ n < 16, (s.panes.get n).digest ≠ .pending := fun n hn hd => by
    have hset := (h.pending n hn).mpr hd
    simp [hnone n hn] at hset
  rw [examineRequest_complete h.request
    ((requestComplete_iff _ _).mpr fun n hn _ => ⟨hpending n hn, h.noneRuns n hn⟩)]
  refine ⟨by simp, by simpa using h.running, by simpa using hnone, fun n => ?_, fun m hm => ?_⟩
  · by_cases hn : n < 16
    · simp [stage_eq_none, ← Bool.not_eq_true, inPreparation_iff, hpending n hn, h.noneRuns n hn]
    · exact stage_beyond _ (by omega)
  · rw [finishReply_reservations, Function.update_apply]
    split
    · rfl
    next hne => exact Bool.not_eq_true _ ▸ mt (h.reserved m hm).mp hne

theorem BetweenRuns.digestGoOn {s : State} {q : DigestRequest} (h : BetweenRuns s q) : DigestSound s.digestGoOn := by
  cases hfind : s.digest.pendingSet.findFirst id with
  | some n =>
    obtain ⟨hn, hp, hlow⟩ := Table.findFirst_some hfind
    rw [digestGoOn_pending hn hp hlow]
    exact h.run hn hp
  | none =>
    have hnone := Table.findFirst_none.mp hfind
    rw [digestGoOn_none hnone]
    exact (h.complete hnone).digestSound

/-- A run that is over, at its end or abandoned, with its pane left in no preparation and every other in its stage. -/
theorem DigestSound.abandonRun {s : State} (h : DigestSound s) {n : Nat} (hrun : s.digest.running = some n)
    {panes : Table Pane 16} (hn : (panes.get n).stage = none)
    (hother : ∀ m < 16, m ≠ n → (panes.get m).stage = (s.panes.get m).stage) :
    DigestSound { s with panes := panes }.abandonRun := by
  obtain ⟨q, hq⟩ : ∃ q, s.digest.request = some q := Option.isSome_iff_exists.mp (by rw [h.atWork, hrun]; rfl)
  obtain ⟨hslot, hreserved, hmask⟩ := h.mask q hq
  have hpending : ∀ m < 16, (panes.get m).digest = .pending →
      m ≠ n ∧ (s.panes.get m).digest = .pending ∧ (panes.get m).valid = (s.panes.get m).valid := fun m hm hd => by
    have hmn : m ≠ n := by
      rintro rfl
      exact digest_ne_of_stage hn rfl hd
    obtain ⟨hdigest, -, hvalid⟩ := of_stage_eq (hother m hm hmn)
    exact ⟨hmn, (hdigest .pending rfl).mp hd, hvalid (by rw [hd]; rfl)⟩
  have hprep : ∀ {m : Nat}, (s.panes.get m).digest = .pending → (s.panes.get m).digest.inPreparation = true :=
    fun hd => by rw [hd]; rfl
  refine BetweenRuns.digestGoOn (q := q) ⟨hq, rfl, fun m hm => ?_, fun m hm hd => ?_, fun m hm hd => ?_,
    fun m hm hd => ?_, hslot, fun m hm => ⟨fun hr => ?_, ?_⟩⟩
  · refine (h.pending m hm).trans ⟨fun hd => ?_, fun hd => (hpending m hm hd).2.1⟩
    have hmn : m ≠ n := by
      rintro rfl
      simp [(h.running m hm).mp hrun] at hd
    exact ((of_stage_eq (hother m hm hmn)).1 .pending rfl).mpr hd
  · have hmn : m ≠ n := by
      rintro rfl
      exact digest_ne_of_stage hn rfl hd
    have hrun' := (h.running m hm).mpr (((of_stage_eq (hother m hm hmn)).1 .running rfl).mp hd)
    exact hmn (Option.some.inj (hrun'.symm.trans hrun))
  · obtain ⟨-, hd', hvalid⟩ := hpending m hm hd
    exact hvalid.trans (h.valid m hm (hprep hd'))
  · exact hmask m hm (hprep (hpending m hm hd).2.1)
  · obtain ⟨q', hq', rfl⟩ := h.slot m hm (reservations_eq_true.mp hr)
    rw [Option.some.inj (hq.symm.trans hq')]
  · rintro rfl
    exact reservations_eq_true.mpr hreserved

/-- While a pane of it runs, a request waits (R99). -/
theorem DigestSound.examineRequest {s : State} (h : DigestSound s) : s.examineRequest = s := by
  cases hq : s.digest.request with
  | none => simp only [State.examineRequest, hq]
  | some q =>
    obtain ⟨n, hrun⟩ := Option.isSome_iff_exists.mp (h.atWork.symm.trans (by rw [hq]; rfl))
    have hn := h.runningPane n hrun
    have hd := (h.running n hn).mp hrun
    obtain ⟨-, -, hmask⟩ := h.mask q hq
    refine examineRequest_waits hq ?_
    rw [← Bool.not_eq_true, requestComplete_iff]
    exact fun hall => (hall n hn (hmask n hn (by rw [hd]; rfl))).2 hd

/-! ## The touch rule (R54) -/

theorem touched_stage {p : Pane} (hit : Pane → Bool) (h : (p.valid && hit p) = true → p.digest ≠ .running) :
    (p.touchedBy hit).stage = p.stage := by
  unfold Pane.touchedBy
  split
  next hh =>
    unfold Pane.stage
    cases hd : p.digest with
    | running => exact absurd hd (h hh)
    | none | pending | valid | stale => rfl
  · rfl

theorem DigestSound.touchWhere {s : State} (h : DigestSound s) (hit : Pane → Bool) :
    DigestSound (s.touchWhere hit) := by
  have hkept : ∀ m < 16, (s.digest.running = some m → ((s.panes.get m).valid && hit (s.panes.get m)) = false) →
      ((s.panes.mapIdx fun _ p => p.touchedBy hit).get m).stage = (s.panes.get m).stage := fun m hm hmiss => by
    rw [Table.get_mapIdx _ _ hm]
    refine touched_stage hit fun hh hd => ?_
    simp [hmiss ((h.running m hm).mpr hd)] at hh
  unfold State.touchWhere
  dsimp only
  cases hrun : s.digest.running with
  | none =>
    have hmiss : hitsRun s hit = false := by simp [hitsRun, hrun]
    rw [hmiss]
    exact h.congr { panes := stages_eq fun m hm => hkept m hm (by simp [hrun]) }
  | some n =>
    have hn := h.runningPane n hrun
    have hhit : hitsRun s hit = ((s.panes.get n).valid && hit (s.panes.get n)) := by simp [hitsRun, hrun]
    rw [hhit]
    split
    next hh =>
      refine h.abandonRun hrun ?_ fun m hm hmn => hkept m hm fun hm' =>
        absurd (Option.some.inj (hm'.symm.trans hrun)) hmn
      simp only [Bool.and_eq_true] at hh
      rw [Table.get_mapIdx _ _ hn, touchedBy_of_hit hh.1 hh.2, stage_eq_none, (h.running n hn).mp hrun]
      rfl
    next hh =>
      refine h.congr { panes := stages_eq fun m hm => hkept m hm fun hm' => ?_ }
      obtain rfl := Option.some.inj (hrun.symm.trans hm')
      simpa using hh

theorem DigestSound.paintPixel {s : State} (h : DigestSound s) (job : Job) (o : Nat × Nat) :
    DigestSound (s.paintPixel job o) := by
  have hwritten : DigestSound (s.writePixel (job.column o.1) (job.row o.2) (job.result s.store o.1 o.2)) :=
    h.congr ⟨rfl, rfl, rfl⟩
  unfold State.paintPixel
  dsimp only
  split
  · exact hwritten.touchWhere _
  · exact hwritten

theorem DigestSound.paint {s : State} (h : DigestSound s) (job : Job) (offsets : List (Nat × Nat)) :
    DigestSound (s.paint job offsets) :=
  List.foldlRecOn (motive := DigestSound) offsets _ h fun _ hu o _ => hu.paintPixel job o

theorem DigestSound.finishJob {s : State} (h : DigestSound s) (job : Job) : DigestSound (s.finishJob job) := by
  have hpainted := h.paint job job.todo
  unfold State.finishJob
  dsimp only
  split
  · exact hpainted.congr ⟨rfl, stages_modify (by intro; rfl) _ _, rfl⟩
  · exact hpainted

theorem DigestSound.clearUpTo {s : State} (h : DigestSound s) (hi : Nat) : DigestSound (s.clearUpTo hi) := by
  have hwritten : DigestSound { s with
      store := clearCells s.store s.engine.cleared hi
      engine := { s.engine with cleared := hi } } := h.congr
  exact hwritten.touchWhere _

theorem DigestSound.engineRuns {s : State} (h : DigestSound s) : DigestSound s.engineRuns := by
  unfold State.engineRuns
  dsimp only
  split
  · exact (h.clearUpTo _).congr ⟨rfl, rfl, rfl⟩
  · split
    · exact h
    next job _ => exact (h.paint job _).congr ⟨rfl, rfl, rfl⟩

/-! ## LOAD_PANE, ASK_DIGEST and RESET (R37, R50, R96) -/

/-- A pane that does not run leaves the pending set and its preparation with it (R50). -/
theorem DigestSound.dropPending {s : State} (h : DigestSound s) {n : Nat} (hrun : s.digest.running ≠ some n)
    {panes : Table Pane 16} (hn : (panes.get n).stage = none)
    (hother : ∀ m < 16, m ≠ n → (panes.get m).stage = (s.panes.get m).stage) :
    DigestSound { s with
      panes := panes
      digest := { s.digest with pendingSet := s.digest.pendingSet.set n false } } := by
  have hkept : ∀ m < 16, (panes.get m).digest.inPreparation = true →
      (s.panes.get m).digest.inPreparation = true ∧ (panes.get m).valid = (s.panes.get m).valid := fun m hm hp => by
    have hmn : m ≠ n := by
      rintro rfl
      simp [stage_eq_none.mp hn] at hp
    obtain ⟨-, hprep, hvalid⟩ := of_stage_eq (hother m hm hmn)
    exact ⟨hprep ▸ hp, hvalid hp⟩
  refine ⟨fun m hm => ?_, fun m hm => ?_, h.runningPane, fun m hm hp => ?_, h.atWork, fun hr m hm => ?_,
    fun q hq => ?_, h.slot⟩
  · dsimp only
    by_cases hmn : m = n
    · subst hmn
      simp [Table.get_set_self _ _ hm, digest_ne_of_stage hn (d := .pending) rfl]
    · rw [Table.get_set_ne _ _ (Ne.symm hmn), h.pending m hm]
      exact ((of_stage_eq (hother m hm hmn)).1 .pending rfl).symm
  · by_cases hmn : m = n
    · subst hmn
      exact iff_of_false hrun (digest_ne_of_stage hn rfl)
    · exact (h.running m hm).trans ((of_stage_eq (hother m hm hmn)).1 .running rfl).symm
  · obtain ⟨hp', hvalid⟩ := hkept m hm hp
    exact hvalid.trans (h.valid m hm hp')
  · dsimp only
    rw [Table.get_set]
    split
    · rfl
    · exact h.goesOn hr m hm
  · obtain ⟨hslot, hreserved, hmask⟩ := h.mask q hq
    exact ⟨hslot, hreserved, fun m hm hp => hmask m hm (hkept m hm hp).1⟩

/-- A pane that is forgotten leaves the run, the pending set or neither (R50). -/
theorem DigestSound.forget {s t : State} (h : DigestSound s) {n : Nat} {panes : Table Pane 16}
    (ht : t.setDigestState n .none = { s with panes := panes }) (hdigest : t.digest = s.digest)
    (hn : (panes.get n).stage = none) (hother : ∀ m < 16, m ≠ n → (panes.get m).stage = (s.panes.get m).stage) :
    DigestSound (t.forgetPane n) := by
  unfold State.forgetPane
  rw [ht, hdigest]
  dsimp only
  split
  next hrun => exact h.abandonRun hrun hn hother
  next hrun =>
    split
    next hset =>
      have hsound := h.dropPending hrun hn hother
      rw [hsound.examineRequest]
      exact hsound
    next hset =>
      refine h.congr { panes := stages_eq fun m hm => ?_ }
      by_cases hmn : m = n
      · subst hmn
        refine hn.trans (Eq.symm ?_)
        rw [stage_eq_none, ← Bool.not_eq_true, inPreparation_iff, ← h.pending m hm, ← h.running m hm]
        exact not_or.mpr ⟨hset, hrun⟩
      · exact hother m hm hmn

theorem DigestSound.loadPaneEffect {s : State} (h : DigestSound s) (r : Record) : DigestSound (loadPaneEffect r s) := by
  refine h.forget (n := headByte r 0) (panes := ((s.panes.modify (headByte r 0) fun p => p.loaded (headByte r 0) r).modify
    (headByte r 0) fun p => { p with digest := .none })) rfl rfl ?_ fun m _ hm => ?_
  · by_cases hn : headByte r 0 < 16
    · rw [Table.get_modify_self _ _ hn]
      rfl
    · exact stage_beyond _ (by omega)
  · rw [Table.get_modify_ne _ _ hm.symm, Table.get_modify_ne _ _ hm.symm]

/-- The panes that an accepted request sets to PENDING (R96). -/
def joinsRequest (q : DigestRequest) (n : Nat) (p : Pane) : Bool :=
  p.valid && q.mask.getLsbD n && (decide (p.digest = .none) || decide (p.digest = .stale))

/-- The panes with those that join the request PENDING (R96). -/
def panesAsked (panes : Table Pane 16) (q : DigestRequest) : Table Pane 16 :=
  panes.mapIdx fun n p => if joinsRequest q n p then { p with digest := .pending } else p

/-- The pending set with the panes that join the request (R96). -/
def pendingAsked (s : State) (q : DigestRequest) : Table Bool 16 :=
  s.digest.pendingSet.mapIdx fun n b => b || joinsRequest q n (s.panes.get n)

/-- With no pane running, an accepted request is outstanding and the unit goes on (R96, R97). -/
theorem acceptDigestRequest_eq {s : State} (hrun : s.digest.running = none) (q : DigestRequest) :
    s.acceptDigestRequest q = State.digestGoOn { s with
      panes := panesAsked s.panes q
      digest := { work := .serving, pendingSet := pendingAsked s q, running := none, request := some q } } := by
  unfold State.acceptDigestRequest
  dsimp only
  rw [if_pos hrun, hrun]
  congr 3
  · funext n p
    refine if_congr ?_ rfl rfl
    unfold joinsRequest
    cases p.digest <;> simp
  · unfold pendingAsked
    congr 1
    funext n b
    unfold joinsRequest
    cases (s.panes.get n).digest <;> simp

/-- An accepted request in a slot that has been reserved for it, where there was none (R96). -/
theorem NothingAsked.accept {s : State} (h : NothingAsked s) {q : DigestRequest} (hslot : q.slot < 4) (k t : Byte) :
    DigestSound ((s.setSlot q.slot (.reserved k t)).acceptDigestRequest q) := by
  have hjoined : ∀ n < 16, ((panesAsked s.panes q).get n).digest = .pending ↔ joinsRequest q n (s.panes.get n) = true :=
    fun n hn => by
      rw [panesAsked, Table.get_mapIdx _ _ hn]
      split
      next hj => simp [hj]
      next hj =>
        exact iff_of_false (digest_ne_of_stage (h.panes n) rfl) hj
  have hchosen : ∀ n, joinsRequest q n (s.panes.get n) = true →
      (s.panes.get n).valid = true ∧ q.mask.getLsbD n = true :=
    fun n hj => by
      simp only [joinsRequest, Bool.and_eq_true] at hj
      exact hj.1
  rw [acceptDigestRequest_eq (by exact h.running)]
  refine BetweenRuns.digestGoOn (q := q) ⟨rfl, rfl, fun n hn => ?_, fun n hn => ?_, fun n hn hd => ?_, fun n hn hd => ?_,
    hslot, fun m hm => ?_⟩
  · refine Iff.trans ?_ (hjoined n hn).symm
    dsimp only [pendingAsked, State.setSlot]
    rw [Table.get_mapIdx _ _ hn, h.pending n hn, Bool.false_or]
  · dsimp only [panesAsked, State.setSlot]
    rw [Table.get_mapIdx _ _ hn]
    split
    · simp
    · exact digest_ne_of_stage (h.panes n) rfl
  · have hj := (hjoined n hn).mp hd
    dsimp only [panesAsked, State.setSlot]
    rw [Table.get_mapIdx _ _ hn, if_pos hj]
    exact (hchosen n hj).1
  · exact (hchosen n ((hjoined n hn).mp hd)).2
  · dsimp only
    rw [setSlot_reservations, Function.update_apply]
    split
    next hm' => simp [hslot, Slot.isReserved, hm']
    next hm' => simp [h.slots m hm, hm']

/-- A soft reset drops the request and frees its slot (R37, R100). -/
theorem DigestSound.softReset {s : State} (h : DigestSound s) : DigestSound s.softReset := by
  have hquiet : ∀ n, (State.reset.panes.get n).stage = none := fun n => by
    by_cases hn : n < 16
    · rw [stage_eq_none, reset_pane_digest hn]
      rfl
    · exact stage_beyond _ (by omega)
  rw [softReset_eq]
  refine NothingAsked.digestSound ⟨rfl, rfl, fun n hn => reset_digestSound.goesOn rfl n hn, hquiet, fun m hm => ?_⟩
  rw [reservations, slotsAfterSoftReset_get s hm]
  split
  · rfl
  next hkept =>
    rw [← Bool.not_eq_true, isReserved_iff]
    exact fun hr => hkept (h.slot m hm hr)

end Sys2Proof.Machine

namespace Sys2Proof.Machine

set_option Elab.async false

/-! # What every step keeps of the digest unit, command by command -/

/-! ## Records and answers (R33 to R35) -/

theorem DigestSound.takeControl {s : State} (h : DigestSound s) {code : Byte} {check : Record → Option Reason}
    {effect : Record → State → State} (he : ∀ r, DigestSound (effect r s)) :
    DigestSound (takeControl code check effect s) :=
  takeControl_keeps h (fun _ _ _ _ _ => h.congr) (fun _ r _ _ _ _ => (he r).congr)

theorem DigestSound.takePanel {s : State} (h : DigestSound s) {a : PanelAction} {effect : Record → State → State}
    (he : ∀ r, DigestSound (effect r s)) : DigestSound (takePanel a effect s) :=
  takePanel_keeps h (h.takeControl he)

theorem DigestSound.takeDraw {s : State} (h : DigestSound s) (kind : DrawKind) : DigestSound (takeDraw kind s) :=
  takeDraw_keeps h (fun _ _ _ => h.congr)
    (fun _ _ _ _ => h.congr { slots := by simp [State.setEngine, noteOutcome_slots] })
    (fun _ _ _ => h.congr { slots := by simp [noteOutcome_slots] })

theorem freeSlot_eq_some {s : State} {n : Nat} (h : s.freeSlot = some n) : n < 4 ∧ s.dec.slots.get n = .free := by
  obtain ⟨hn, hfree, -⟩ := Table.findFirst_some h
  exact ⟨hn, (isFree_iff _).mp hfree⟩

/-- A FREE slot that is reserved and answered at once is RESERVED no longer. -/
theorem reservations_answered {s : State} {n : Nat} (hfree : s.dec.slots.get n = .free) (b : Bool) :
    Function.update (Function.update (reservations s.dec.slots) n b) n false = reservations s.dec.slots := by
  rw [Function.update_idem, Function.update_eq_self_iff, reservations, hfree]
  rfl

theorem DigestSound.answerDigest {s : State} (h : DigestSound s) {n : Nat} (hn : n < 4)
    (hfree : s.dec.slots.get n = .free) (k t : Byte) (f : RxFrame) (r : Record) :
    DigestSound (answerDigest n f r (s.setSlot n (.reserved k t))) := by
  unfold Machine.answerDigest
  split
  · exact h.congr { slots := by simp [State.refuseAsk, reservations_answered hfree] }
  next hnone =>
    have hq : s.digest.request = none := by
      simp only [firstFailure_eq_none, List.forall_mem_cons, Option.isNone_iff_eq_none] at hnone
      exact hnone.2.1
    exact (h.nothingAsked hq).accept (q := { mask := digestMaskOf r, tag := r.tag, slot := n }) hn k t

/-- An ASK record answered in a FREE slot leaves that slot RESERVED exactly as the outstanding request's (R34, R96). -/
theorem DigestSound.answerOf {s : State} (h : DigestSound s) {n : Nat} (hn : n < 4) (hfree : s.dec.slots.get n = .free)
    {code : Byte} (hcode : isAskCode code = true) (k t : Byte) (f : RxFrame) (r : Record) :
    DigestSound (answerOf code n f r (s.setSlot n (.reserved k t))) := by
  have hanswered : ∀ check body, DigestSound (answerWith check body n f r (s.setSlot n (.reserved k t))) :=
    fun _ _ => h.congr { slots := by simp [reservations_answered hfree] }
  simp only [isAskCode, Bool.and_eq_true, decide_eq_true_eq] at hcode
  rcases askCode_cases hcode.1 hcode.2 with rfl | rfl | rfl | rfl | rfl
  · exact h.congr (t := answerStatus n f r (s.setSlot n (.reserved k t)))
      { slots := by simp [reservations_answered hfree] }
  · exact h.answerDigest hn hfree k t f r
  · exact hanswered askCellCheck cellBody
  · exact hanswered askTableCheck tableBody
  · exact hanswered (lengthCheck 0) fun _ _ => identificationBody

theorem DigestSound.takeAsk {s : State} (h : DigestSound s) {code : Byte} (hcode : isAskCode code = true) :
    DigestSound (takeAsk code (Machine.answerOf code) s) := by
  rcases takeAsk_cases code (Machine.answerOf code) s with
    e | ⟨f, r, -, -, ⟨-, e⟩ | ⟨-, n, hslot, e⟩ | ⟨-, -, c, -, e⟩⟩ <;> rw [e]
  · exact h
  · exact h.congr
  · obtain ⟨hn, hfree⟩ := freeSlot_eq_some hslot
    exact (h.answerOf hn hfree hcode r.kind r.tag f r).congr
  · exact h.congr

theorem DigestSound.slotGranted {s t : State} (h : DigestSound s) (hd : DecoderSound s)
    (hx : execSlotGranted s = .next t) : DigestSound t := by
  refine live_keeps hx h fun _ => ?_
  split
  next c hwait =>
    split
    next n f r hslot hat =>
      obtain ⟨hn, hfree⟩ := freeSlot_eq_some hslot
      obtain ⟨f', r', hat', -, hask⟩ := hd.slotWait c hwait
      obtain ⟨rfl, rfl⟩ : f = f' ∧ r = r' := by simpa [hat] using hat'
      have hwalking : DigestSound (s.setDecoder (.walking c)) := h.congr
      exact (hwalking.answerOf hn hfree hask r.kind r.tag f r).congr
    · exact h
  all_goals exact h

/-! ## The retention pass and check, with no request outstanding (R94, R101 to R105) -/

theorem DigestSound.nothingAsked_of_work {s : State} (h : DigestSound s) (hw : WorkSound s)
    (hwork : s.digest.work ≠ .serving) : NothingAsked s := h.nothingAsked (hw.request_none hwork)

theorem NothingAsked.modifyPane {s : State} (h : NothingAsked s) {n : Nat} {f : Pane → Pane}
    (hf : (f (s.panes.get n)).stage = none) : DigestSound (s.modifyPane n f) :=
  h.digestSound.congr { tasks := rfl, panes := h.stages_modify hf, slots := rfl }

theorem DigestSound.retentionPassPaneDone {s t : State} (h : DigestSound s) (hw : WorkSound s)
    (hx : execRetentionPassPaneDone s = .next t) : DigestSound t := by
  refine live_keeps hx h fun _ => ?_
  split
  next n hpass =>
    have hnone := h.nothingAsked_of_work hw (by simp [hpass])
    have hstored : DigestSound (s.modifyPane n fun p =>
        { p with
          digest := .valid (paneDigest s.store (s.panes.get n))
          dozeDigest := some (paneDigest s.store (s.panes.get n)) }) := hnone.modifyPane rfl
    dsimp only
    split
    · exact hstored.setWork _
    · exact hstored.congr
  all_goals exact h

/-- A lost pane is NONE while it is cleared (R104). -/
theorem NothingAsked.beginClearing {s : State} (h : NothingAsked s) (n : Nat) (rest : List Nat) :
    DigestSound (s.beginClearing n rest) := by
  have hmarked : DigestSound (s.modifyPane n fun p => { p with lost := true, digest := .none }) := h.modifyPane rfl
  exact hmarked.congr ⟨rfl, rfl, rfl⟩

theorem NothingAsked.checkMade {s : State} (h : NothingAsked s) (lost : List Nat) : DigestSound (s.checkMade lost) := by
  cases lost with
  | nil =>
    have hended : DigestSound (s.endCheck false) := h.digestSound.congr
    exact hended
  | cons n rest => exact h.beginClearing n rest

/-- The check goes on past a pane (R103). -/
theorem NothingAsked.checkPast {s : State} (h : NothingAsked s) (n : Nat) (found : List Nat) :
    DigestSound (s.checkPast n found) := by
  unfold State.checkPast
  split
  · exact h.digestSound.setWork _
  · exact h.checkMade _

theorem DigestSound.retentionCheckPaneDone {s t : State} (h : DigestSound s) (hw : WorkSound s)
    (hx : execRetentionCheckPaneDone s = .next t) : DigestSound t := by
  refine onEvent_keeps hx h fun _ _ => ?_
  split
  next n lost hcheck =>
    have hnone := h.nothingAsked_of_work hw (by simp [hcheck])
    have hcompared : ∀ b v, NothingAsked (if b = true then s.setDigestState n (.valid v) else s) := by
      intro b v
      split
      · exact (hnone.modifyPane (n := n) (f := fun p => { p with digest := .valid v }) rfl).nothingAsked hnone.request
      · exact hnone
    exact (hcompared _ _).checkPast n _
  all_goals exact h

theorem DigestSound.retentionClearPaneDone {s t : State} (h : DigestSound s) (hw : WorkSound s)
    (hx : execRetentionClearPaneDone s = .next t) : DigestSound t := by
  refine onEvent_keeps hx h fun _ _ => ?_
  split
  next n rest job hclear _ =>
    have hq := hw.request_none (by simp [hclear])
    have hpainted := h.paint job job.todo
    obtain ⟨-, hq'⟩ := (paint_goesOn s job job.todo).unchanged hq
    dsimp only
    split
    · have hback : DigestSound ((s.paint job job.todo).setEngine .free none) := hpainted.congr
      exact hback.congr
    · exact (hpainted.nothingAsked hq').beginClearing _ _
  · exact h

/-! ## The other commands -/

theorem DigestSound.bannerRecordDone {s t : State} (h : DigestSound s) (hx : execBannerRecordDone s = .next t) :
    DigestSound t := by
  refine onEvent_keeps hx h fun _ _ => ?_
  split
  next c _ =>
    have hdone : ∀ u : State, DigestSound u → DigestSound (match bannerRecord s.power c with
        | some (_, r) => u.bannerRead (c + r.extent)
        | none => u.endPlay) := fun u hu => by
      split <;> exact hu.congr
    dsimp only
    refine hdone _ ?_
    split
    · exact h.finishJob _
    · exact h
  · exact h

theorem DigestSound.keyScan {s t : State} (h : DigestSound s) {raw : BitVec 128} (hx : execKeyScan raw s = .next t) :
    DigestSound t := by
  refine onEvent_keeps hx h fun _ _ => ?_
  dsimp only
  split
  · exact h.congr
  · exact List.foldlRecOn (motive := DigestSound) _ _ (List.foldlRecOn (motive := DigestSound) _ _ h.congr
      fun _ hu _ _ => hu.congr) fun _ hu _ _ => hu.congr

/-- A reply that starts to be sent leaves a FINISHED slot (R19). -/
theorem DigestSound.replyFrameStart {s t : State} (h : DigestSound s) (hx : execReplyFrameStart s = .next t) :
    DigestSound t := by
  refine onEvent_keeps hx h fun _ _ => ?_
  split
  next n _ =>
    split
    next hfinished =>
      have hnot : reservations s.dec.slots n = false := by rw [reservations, hfinished]; rfl
      refine h.congr { slots := ?_ }
      simp [Slot.isReserved, State.startFrame, hnot]
    all_goals exact h
  · exact h

theorem DigestSound.digestRunEnd {s t : State} (h : DigestSound s) (hx : execDigestRunEnd s = .next t) :
    DigestSound t := by
  refine live_keeps hx h fun _ => ?_
  split
  next n hrun =>
    refine h.abandonRun hrun (panes := s.panes.modify n _) ?_ fun m _ hm => ?_
    · rw [Table.get_modify_self _ _ (h.runningPane n hrun)]
      rfl
    · rw [Table.get_modify_ne _ _ hm.symm]
  · exact h

theorem DigestSound.exec {c : Instr} {s t : State} (h : DigestSound s) (hw : WorkSound s) (hd : DecoderSound s)
    (hx : exec c s = .next t) : DigestSound t := by
  cases c with
  | resetAssert =>
    injection hx with hx
    subst hx
    exact reset_digestSound.congr ⟨rfl, rfl, rfl⟩
  | resetRelease | presenceContactChange =>
    injection hx with hx; subst hx; split <;> exact h.congr
  | clearPassEnd =>
    rw [Machine.exec] at hx
    exact onEvent_keeps hx h fun _ _ => (h.clearUpTo _).congr ⟨rfl, rfl, rfl⟩
  | presenceClosed | presenceOpen | startSymbol | silenceTimeout | bannerDelayExpiry | flowSymbolSend | keysFrameStart
  | noticeFrameStart | dozeTimerExpiry | powerUpEnd | powerDownEnd | frameEnd =>
    rw [Machine.exec] at hx
    exact onEvent_keeps hx h fun _ _ => h.congr
  | laneLockGained | upstreamFrameEnd =>
    rw [Machine.exec] at hx
    exact live_keeps hx h fun _ => h.congr
  | laneLockLost =>
    rw [Machine.exec] at hx
    refine onEvent_keeps hx h fun _ _ => ?_
    dsimp only
    split <;> exact h.congr
  | dataSymbol b =>
    rw [Machine.exec] at hx
    refine onEvent_keeps hx h fun _ _ => ?_
    dsimp only
    (repeat' split) <;> exact h.congr
  | frameTake | brokenRecord =>
    rw [Machine.exec] at hx
    refine onEvent_keeps hx h fun _ _ => ?_
    (repeat' split) <;> exact h.congr
  | retentionPassStart =>
    rw [Machine.exec] at hx
    refine onEvent_keeps hx h fun _ _ => ?_
    split
    · exact h.setWork _
    · exact h.congr
  | unknownRecord | recomputeStep =>
    rw [Machine.exec] at hx
    refine live_keeps hx h fun _ => ?_
    (repeat' split) <;> exact h.congr
  | slotGranted => exact h.slotGranted hd hx
  | fill | clear | glyph | planes | move | keymove =>
    rw [Machine.exec] at hx
    exact live_keeps hx h fun _ => h.takeDraw _
  | drawComplete =>
    rw [Machine.exec] at hx
    refine onEvent_keeps hx h fun _ _ => ?_
    split
    next job f r _ _ =>
      have hback : DigestSound ((s.finishJob job).setEngine .free none) := (h.finishJob job).congr
      exact hback.congr
    · exact h
  | loadPane =>
    rw [Machine.exec] at hx
    exact live_keeps hx h fun _ => h.takeControl h.loadPaneEffect
  | reset =>
    rw [Machine.exec] at hx
    exact live_keeps hx h fun _ => h.takeControl fun _ => h.softReset
  | loadPen | loadPalette | loadShade | loadKeymap | loadBanner | setBanner | backlight | lamps | setKeys | setNotice
  | clearCounts =>
    rw [Machine.exec] at hx
    exact live_keeps hx h fun _ => h.takeControl fun _ => h.congr ⟨rfl, rfl, rfl⟩
  | setView =>
    rw [Machine.exec] at hx
    refine live_keeps hx h fun _ => h.takeControl fun _ => ?_
    unfold setViewEffect
    split <;> exact h.congr
  | setLink =>
    rw [Machine.exec] at hx
    refine live_keeps hx h fun _ => h.takeControl fun _ => ?_
    dsimp only
    split <;> exact h.congr
  | setOutage =>
    rw [Machine.exec] at hx
    refine live_keeps hx h fun _ => h.takeControl fun _ => ?_
    dsimp only
    (repeat' split) <;> exact h.congr
  | doze =>
    rw [Machine.exec] at hx
    refine live_keeps hx h fun _ => h.takeControl fun _ => ?_
    split <;> exact h.congr
  | panelStart | panelStop | panelFull | panelPartial | panelIdleOn | panelIdleOff | panelShow | panelBlank =>
    rw [Machine.exec] at hx
    exact live_keeps hx h fun _ => h.takePanel fun _ => h.congr
  | askStatus | askDigest | askCell | askTable | askId =>
    rw [Machine.exec] at hx
    exact live_keeps hx h fun _ => h.takeAsk (by decide)
  | digestRunEnd => exact h.digestRunEnd hx
  | retentionPassPaneDone => exact h.retentionPassPaneDone hw hx
  | oscillatorWaitEnd =>
    rw [Machine.exec] at hx
    refine onEvent_keeps hx h fun _ _ => ?_
    have hwaited : DigestSound { s with power := { s.power with oscillator := none } } := h.congr
    dsimp only
    split
    · exact hwaited.setWork _
    · exact hwaited.congr
  | retentionCheckPaneDone => exact h.retentionCheckPaneDone hw hx
  | retentionClearPaneDone => exact h.retentionClearPaneDone hw hx
  | bannerGrant =>
    rw [Machine.exec] at hx
    refine onEvent_keeps hx h fun _ _ => ?_
    dsimp only
    split <;> exact h.congr
  | bannerRecordDone => exact h.bannerRecordDone hx
  | keyScan raw => exact h.keyScan hx
  | replyFrameStart => exact h.replyFrameStart hx
  | dozePixelLoss x y v =>
    rw [Machine.exec, execDozePixelLoss] at hx
    split at hx
    · exact onEvent_keeps hx h fun _ _ => h.congr
    · cases hx

/-- Settles O56: the blocks' work says that a pass, a check and a clearing have no request to disturb, and the decoder
that only an ASK record waits for a slot. -/
theorem stepsKeepDigestSound : Obligations.StepsKeepDigestSound := by
  intro s t hw hd h hx
  have hall : WorkSound t ∧ DecoderSound t ∧ DigestSound t :=
    step_keeps (P := fun u => WorkSound u ∧ DecoderSound u ∧ DigestSound u)
      (fun _ _ ⟨hw, hd, h⟩ => ⟨hw.congr, hd.congr, h.congr⟩)
      (fun _ hall => idle_keeps (P := fun u => WorkSound u ∧ DecoderSound u ∧ DigestSound u)
        (fun _ _ ⟨hw, hd, h⟩ => ⟨hw.congr, hd.congr, h.congr⟩)
        (fun _ ⟨hw, hd, h⟩ => ⟨hw.congr, hd.congr (hp := by simp [State.timersRun]), h.engineRuns.congr⟩) hall)
      (fun _ _ _ ⟨hw, hd, h⟩ hx => ⟨hw.exec hx, hd.exec hx, h.exec hw hd hx⟩) ⟨hw, hd, h⟩ hx
  exact hall.2.2

end Sys2Proof.Machine

namespace Sys2Proof.Machine

set_option Elab.async false

/-! # The digest of a pane (R93) -/

/-- The top row of a rectangle, and the rectangle below it. -/
theorem rectPixels_succ (store : List Host.Cell) (left top width height : Nat) :
    rectPixels store left top width (height + 1) =
      (List.range' left width).map (fun x => readCell store (pixelAddress x top)) ++
        rectPixels store left (top + 1) width height := by
  simp only [rectPixels, List.range'_succ, List.flatMap_cons]

theorem rectPixels_length (store : List Host.Cell) (left top width height : Nat) :
    (rectPixels store left top width height).length = width * height := by
  induction height generalizing top with
  | zero => rfl
  | succ height ih =>
    rw [rectPixels_succ, List.length_append, ih, List.length_map, List.length_range', Nat.mul_succ, Nat.add_comm]

/-- The pixel `i` columns from the left in the row `j` rows from the top comes after `j` whole rows. -/
theorem rectPixels_getD (store : List Host.Cell) (left top width height : Nat) {i j : Nat} (hi : i < width)
    (hj : j < height) :
    (rectPixels store left top width height).getD (j * width + i) 0 =
      readCell store (pixelAddress (left + i) (top + j)) := by
  induction height generalizing top j with
  | zero => omega
  | succ height ih =>
    rw [rectPixels_succ]
    cases j with
    | zero =>
      rw [Nat.zero_mul, Nat.zero_add, List.getD_append _ _ _ _ (by simpa using hi),
        List.getD_eq_getElem _ _ (by simpa using hi)]
      simp
    | succ j =>
      have hbelow : (j + 1) * width + i = width + (j * width + i) := by ring
      rw [List.getD_append_right _ _ _ _ (by simp; omega), hbelow, List.length_map, List.length_range',
        Nat.add_sub_cancel_left, ih _ (by omega), Nat.add_right_comm, Nat.add_assoc]

theorem crc16_checkValues :
    crc16 [0x31, 0x32, 0x33, 0x34, 0x35, 0x36, 0x37, 0x38, 0x39] = 0x29B1#16 ∧ crc16 [0x00] = 0xE1F0#16 := by
  decide +kernel

/-- Settles O27. -/
theorem digestIsCrcOfPixels : Obligations.DigestIsCrcOfPixels :=
  ⟨fun store p => ⟨rectPixels_length store p.left p.top p.width p.height, rfl, fun _ hi _ hj =>
    rectPixels_getD store p.left p.top p.width p.height hi hj⟩, crc16_checkValues⟩

end Sys2Proof.Machine

namespace Sys2Proof.Machine

set_option Elab.async false

open Sys2Proof.Statements

/-! # A digest request and the end of a run (R95 to R97, R99) -/

theorem joinsRequest_iff {q : DigestRequest} {n : Nat} {p : Pane} :
    joinsRequest q n p = true ↔
      q.mask.getLsbD n = true ∧ p.valid = true ∧ (p.digest = .none ∨ p.digest = .stale) := by
  simp only [joinsRequest, Bool.and_eq_true, Bool.or_eq_true, decide_eq_true_eq]
  tauto

/-- A pane that joins the request is PENDING and in the pending set. -/
theorem asked_of_joins {s : State} {q : DigestRequest} {m : Nat} (hm : m < 16)
    (h : joinsRequest q m (s.panes.get m) = true) :
    (panesAsked s.panes q).get m = { s.panes.get m with digest := .pending } ∧ (pendingAsked s q).get m = true := by
  rw [panesAsked, pendingAsked, Table.get_mapIdx _ _ hm, Table.get_mapIdx _ _ hm, if_pos h, h, Bool.or_true]
  exact ⟨rfl, rfl⟩

theorem asked_of_not_joins {s : State} {q : DigestRequest} {m : Nat} (hm : m < 16)
    (h : ¬ joinsRequest q m (s.panes.get m) = true) :
    (panesAsked s.panes q).get m = s.panes.get m ∧ (pendingAsked s q).get m = s.digest.pendingSet.get m := by
  rw [panesAsked, pendingAsked, Table.get_mapIdx _ _ hm, Table.get_mapIdx _ _ hm, if_neg h,
    Bool.eq_false_of_not_eq_true h, Bool.or_false]
  exact ⟨rfl, rfl⟩

/-- With no request outstanding, ASK_DIGEST of one word is accepted (R95, R96). -/
theorem answerDigest_accepted {s : State} (hq : s.digest.request = none) {r : Record} (hl : r.body.length = 1) (n : Nat)
    (f : RxFrame) :
    answerDigest n f r s = s.acceptDigestRequest { mask := digestMaskOf r, tag := r.tag, slot := n } := by
  simp [answerDigest, hq, hl, firstFailure]

/-- The run of a pane ends with its digest VALID, and the unit goes on (R97). -/
theorem exec_digestRunEnd {s : State} {n : Nat} (hr : s.resetLine = false) (hrun : s.digest.running = some n) :
    exec .digestRunEnd s = .next (State.digestGoOn
      { s with
        panes := s.panes.set n { s.panes.get n with digest := .valid (paneDigest s.store (s.panes.get n)) }
        digest := { s.digest with running := none } }) := by
  rw [exec, execDigestRunEnd, live_released hr, hrun]
  rfl

/-- Settles O29. The lowest-numbered FREE slot is the model's choice (notes/assumptions/9.md). -/
theorem digestRequestAndRun : Obligations.DigestRequestAndRun := by
  refine ⟨fun s f r n hacc hq hrun hn hfree hlow => ?_, fun s n hr hrun _ => exec_digestRunEnd hr hrun⟩
  obtain ⟨hat, hctrl, hk, hl, -⟩ := hacc
  have hlength : r.body.length = 1 := by simpa [lengthMatches, hk] using hl
  have hcommand : exec .askDigest s =
      .next ((answerOf r.kind n f r (s.setSlot n (.reserved r.kind r.tag))).advance r) := by
    have hstep := exec_ask_granted hat hctrl (by simp [hk]) (by simp [hk]) hfree hn hlow
    rwa [show recordCommand r = .askDigest by rw [recordCommand, hk]; rfl] at hstep
  have hanswer : answerOf r.kind = answerDigest := by rw [hk]; rfl
  refine ⟨panesAsked s.panes { mask := digestMaskOf r, tag := r.tag, slot := n },
    pendingAsked s { mask := digestMaskOf r, tag := r.tag, slot := n }, ?_,
    fun m hm => ⟨fun hjoins => ?_, fun hnot => ?_⟩⟩
  · rw [hcommand, hanswer, answerDigest_accepted (by exact hq) hlength, acceptDigestRequest_eq (by exact hrun)]
    rfl
  · exact asked_of_joins hm (joinsRequest_iff.mpr hjoins)
  · exact asked_of_not_joins hm (mt joinsRequest_iff.mp hnot)

end Sys2Proof.Machine

namespace Sys2Proof.Machine

set_option Elab.async false

/-! # The retention pass (R101, R132, R166) -/

/-- The pass goes on past pane `n`, or ends in DOZE (R101, R166). -/
def State.passPast (s : State) (n : Nat) : State :=
  match nextPane s.panes Pane.valid (n + 1) with
  | some m => s.setWork (.pass m)
  | none => s.enterDoze

theorem passPast_next {s : State} {n m : Nat} (hnm : n < m) (hm : m < 16) (hv : (s.panes.get m).valid = true)
    (hbetween : ∀ l, n < l → l < m → (s.panes.get l).valid = false) : s.passPast n = s.setWork (.pass m) := by
  simp only [State.passPast, nextPane_eq_some hnm hm hv hbetween]

theorem passPast_last {s : State} {n : Nat} (hlast : ∀ m, n < m → m < 16 → (s.panes.get m).valid = false) :
    s.passPast n = s.enterDoze := by
  simp only [State.passPast, nextPane_eq_none hlast]

/-- The pass begins with the lowest valid pane (R101). -/
theorem exec_retentionPassStart {s : State} {n : Nat} (hr : s.resetLine = false) (hdue : passDue s = true) (hn : n < 16)
    (hv : (s.panes.get n).valid = true) (hlow : ∀ m < n, (s.panes.get m).valid = false) :
    exec .retentionPassStart s = .next (s.setWork (.pass n)) := by
  rw [exec, execRetentionPassStart, onEvent_occurs hr hdue, nextPane_eq_some (Nat.zero_le n) hn hv fun l _ => hlow l]

/-- The digest of a pane is stored as VALID and as its doze digest, and the pass goes on (R101). -/
theorem exec_retentionPassPaneDone {s : State} {n : Nat} {v : BitVec 16} (hr : s.resetLine = false)
    (hw : s.digest.work = .pass n) (hv : v = paneDigest s.store (s.panes.get n)) :
    exec .retentionPassPaneDone s = .next (State.passPast
      { s with panes := s.panes.set n { s.panes.get n with digest := .valid v, dozeDigest := some v } } n) := by
  subst hv
  rw [exec, execRetentionPassPaneDone, live_released hr, hw]
  rfl

/-- Settles O38. -/
theorem retentionPass : Obligations.RetentionPass := by
  refine ⟨fun s n hr hdev hf hd hfree hw hn hv hlow => ?_, ?_⟩
  · exact exec_retentionPassStart hr ((passDue_iff s).mpr ⟨hdev, hf, hd, hfree, hw⟩) hn hv hlow
  · rintro s n v u hr hw - hv rfl
    have hkept : ∀ m, n < m → (s.panes.set n { s.panes.get n with digest := .valid v, dozeDigest := some v }).get m =
        s.panes.get m := fun m hm => Table.get_set_ne _ _ (Nat.ne_of_lt hm)
    rw [exec_retentionPassPaneDone hr hw hv]
    refine ⟨fun m hnm hm hvalid hbetween => ?_, fun hlast => ?_⟩
    · rw [passPast_next hnm hm (by rwa [hkept m hnm]) fun l hl hlm => by rw [hkept l hl]; exact hbetween l hl hlm]
      rfl
    · rw [passPast_last fun m hm h16 => by rw [hkept m hm]; exact hlast m hm h16]
      rfl

end Sys2Proof.Machine

namespace Sys2Proof.Machine

set_option Elab.async false

/-! # An aborted doze entry and the wake (R102, R103, R105, R132, R164, R167, R170) -/

/-! ## Back in ACTIVE -/

theorem restartDozeTimer_of {s u : State} (hlink : u.link = s.link) (hpower : u.power = s.power) :
    u.restartDozeTimer =
      if s.link.state = .absent then { u with power := { s.power with dozeTimer := 0 } } else u := by
  rw [← hlink, ← hpower]
  rfl

/-- The panel remembered on is started again, and the doze timer of an ABSENT link set to 0 (R132, R164). -/
theorem restart_eq (s : State) :
    s.restartRemembered.restartDozeTimer =
      if s.link.state = .absent then
        { (if s.power.remembered then s.requestStart else s) with power := { s.power with dozeTimer := 0 } }
      else if s.power.remembered then s.requestStart else s := by
  rw [restartDozeTimer_of (s := s) (by simp) (by simp)]
  rfl

theorem abortDoze_eq (s : State) :
    s.abortDoze = ((s.abandonPass.setDevice .active).restartRemembered).restartDozeTimer := rfl

theorem dropDozeDigests_get (s : State) {m : Nat} (hm : m < 16) :
    s.dropDozeDigests.panes.get m = { s.panes.get m with dozeDigest := none } := Table.get_mapIdx _ _ hm

/-- The state at the end of the check before the panel and the doze timer are seen to (R105, R170). -/
def State.woken (s : State) (anyLost : Bool) : State :=
  let s1 := s.dropDozeDigests.setWork .idle
  ((if anyLost then s1.setFlag .retentionLoss else s1).setDevice .active).setFlag .woke

theorem endCheck_eq (s : State) (anyLost : Bool) :
    s.endCheck anyLost = (s.woken anyLost).restartRemembered.restartDozeTimer := rfl

theorem woken_link (s : State) (anyLost : Bool) : (s.woken anyLost).link = s.link := by
  cases anyLost <;> rfl

theorem woken_remembered (s : State) (anyLost : Bool) : (s.woken anyLost).power.remembered = s.power.remembered := by
  cases anyLost <;> rfl

/-! ## The oscillator wait -/

/-- The check begins with the lowest pane that holds a doze digest (R103). -/
theorem exec_oscillatorWaitEnd_check {s : State} {n : Nat} (hr : s.resetLine = false) (hdue : oscillatorDue s = true)
    (hn : n < 16) (hd : (s.panes.get n).dozeDigest ≠ none) (hlow : ∀ m < n, (s.panes.get m).dozeDigest = none) :
    exec .oscillatorWaitEnd s =
      .next (State.setWork { s with power := { s.power with oscillator := none } } (.check n [])) := by
  have hnext : nextPane s.panes Pane.hasDozeDigest 0 = some n :=
    nextPane_eq_some (Nat.zero_le n) hn ((hasDozeDigest_eq_true _).mpr hd) fun m _ hm =>
      (hasDozeDigest_eq_false _).mpr (hlow m hm)
  rw [exec, execOscillatorWaitEnd, onEvent_occurs hr hdue]
  simp only [hnext]

theorem exec_oscillatorWaitEnd_none {s : State} (hr : s.resetLine = false) (hdue : oscillatorDue s = true)
    (hnone : ∀ n < 16, (s.panes.get n).dozeDigest = none) :
    exec .oscillatorWaitEnd s =
      .next (State.endCheck { s with power := { s.power with oscillator := none } } false) := by
  have hnext : nextPane s.panes Pane.hasDozeDigest 0 = none :=
    nextPane_eq_none fun m _ hm => (hasDozeDigest_eq_false _).mpr (hnone m hm)
  rw [exec, execOscillatorWaitEnd, onEvent_occurs hr hdue]
  simp only [hnext]

/-- Settles O39. -/
theorem dozeAbortAndWake : Obligations.DozeAbortAndWake := by
  refine ⟨fun s => ?_, ?_, fun s lost => ?_⟩
  · rw [abortDoze_eq, restart_eq]
    by_cases hpass : ∃ n, s.digest.work = .pass n
    · obtain ⟨n, hn⟩ := hpass
      rw [abandonPass_of_pass hn]
      exact ⟨s.dropDozeDigests.panes, .idle, _, rfl, fun _ _ => ⟨rfl, fun m => dropDozeDigests_get s⟩,
        fun hnot => absurd hn (hnot n), rfl⟩
    · push Not at hpass
      rw [abandonPass_of_none hpass]
      exact ⟨s.panes, s.digest.work, _, rfl, fun n hn => absurd hn (hpass n), fun _ => ⟨rfl, rfl⟩, rfl⟩
  · rintro s _ t hr hdev hosc ht rfl
    have hdue : oscillatorDue s = true := (oscillatorDue_iff s).mpr ⟨hdev, t, hosc, ht⟩
    exact ⟨fun n hn hd hlow => exec_oscillatorWaitEnd_check hr hdue hn hd hlow,
      fun hnone => exec_oscillatorWaitEnd_none hr hdue hnone⟩
  · refine ⟨s.dropDozeDigests.panes, s.dropDozeDigests.setWork .idle, s.woken lost,
      fun n => dropDozeDigests_get s, rfl, ?_, ?_⟩
    · cases lost <;> rfl
    · rw [endCheck_eq, restart_eq, woken_link, woken_remembered]

end Sys2Proof.Machine

namespace Sys2Proof.Machine

set_option Elab.async false

/-! # The shade arithmetic (R112 to R114) -/

theorem saturates_eq_false_iff (w : Int) : saturates w = false ↔ 0 ≤ w ∧ w ≤ 1023 := by
  simp [saturates]

theorem saturated_below {w : Int} (h : w < 0) : saturated w = 0 ∧ saturates w = true :=
  ⟨if_pos h, by simp [saturates, h]⟩

theorem saturated_above {w : Int} (h : 1023 < w) : saturated w = 1023 ∧ saturates w = true := by
  refine ⟨?_, by simp [saturates, h]⟩
  rw [saturated, if_neg (by omega), if_pos h]

theorem saturated_within {w : Int} (h0 : 0 ≤ w) (h1 : w ≤ 1023) : (saturated w : Int) = w ∧ saturates w = false := by
  refine ⟨?_, (saturates_eq_false_iff w).mpr ⟨h0, h1⟩⟩
  rw [saturated, if_neg (by omega), if_neg (by omega), Int.toNat_of_nonneg h0]

/-- The greatest channel at the greatest gain bounds the rounded value. -/
theorem gained_le {c gain : Nat} (hc : c ≤ 1023) (hg : gain ≤ 511) : gained c gain ≤ 2042 := by
  have hmul : c * gain ≤ 1023 * 511 := Nat.mul_le_mul hc hg
  unfold gained
  omega

@[simp] theorem gained_unity (c : Nat) : gained c 256 = c := by
  unfold gained
  omega

@[simp] theorem offsetted_unity (c : Nat) : offsetted c 256 0 = c := by simp [offsetted]

theorem panelValue_le (fixed : Bool) (c gain : Nat) (offset : Int) : panelValue fixed c gain offset ≤ 63 := by
  unfold panelValue reduced
  split <;> exact min_le_left _ _

/-- Settles O47. -/
theorem shadeArithmetic : Obligations.ShadeArithmetic := by
  refine ⟨fun c gain hc hg => ⟨rfl, gained_le hc hg, ?_⟩, fun c hc => ?_, fun _ _ _ => rfl, fun _ _ => rfl⟩
  · rintro offset hlo hhi w rfl
    have hgained := gained_le hc hg
    exact ⟨by omega, by omega, rfl, saturated_below, saturated_above, saturated_within, rfl⟩
  · obtain ⟨hvalue, hkept⟩ := saturated_within (w := (c : Int)) (by omega) (by omega)
    rw [offsetted_unity]
    exact ⟨gained_unity c, Int.ofNat_inj.mp hvalue, hkept⟩

end Sys2Proof.Machine

namespace Sys2Proof.Machine

set_option Elab.async false

/-! # The recompute of one pair (R115 to R117) -/

theorem firstPair_eq_some {c : ColourUnit} {k : Nat} (hk : k < 1024) (h : c.recompute.get k = true)
    (hlow : ∀ m < k, c.recompute.get m = false) : firstPair c = some k := findFirst_lowest hk h hlow

theorem firstPair_eq_none {c : ColourUnit} (h : ∀ k < 1024, c.recompute.get k = false) : firstPair c = none :=
  Table.findFirst_none.mpr h

theorem exec_recomputeStep_first {s : State} {k : Nat} (hr : s.resetLine = false) (h : firstPair s.colour = some k) :
    exec .recomputeStep s = .next (s.recomputePair k) := by
  rw [exec, execRecomputeStep, live_released hr]
  simp only [h]

theorem exec_recomputeStep_none {s : State} (h : firstPair s.colour = none) : exec .recomputeStep s = .next s := by
  rw [exec, execRecomputeStep, live]
  simp only [h, ite_self]

/-- Pair `k` leaves the recompute set with its entry written, before the clip flag is seen to (R116). -/
def State.rewritePair (s : State) (k : Nat) : State :=
  { s with colour := { s.colour with
    recompute := s.colour.recompute.set k false
    shaded := s.colour.shaded.set k
      (shadedValues (s.colour.palette.get (k % 256)) (s.colour.sets.get (k / 256))) } }

theorem recomputePair_eq (s : State) (k : Nat) : s.recomputePair k =
    if shadingSaturates (s.colour.palette.get (k % 256)) (s.colour.sets.get (k / 256)) then
      (s.rewritePair k).setClip (k / 256)
    else s.rewritePair k := rfl

theorem shadingSaturates_iff (e : PaletteEntry) (x : ShadeSet) : shadingSaturates e x = true ↔ e.fixed = false ∧
    (saturates (offsetted e.colour.red x.gain.red x.offset.red) = true ∨
      saturates (offsetted e.colour.green x.gain.green x.offset.green) = true ∨
      saturates (offsetted e.colour.blue x.gain.blue x.offset.blue) = true) := by
  simp [shadingSaturates, or_assoc]

theorem shadingSaturates_eq_false_iff (e : PaletteEntry) (x : ShadeSet) : shadingSaturates e x = false ↔ e.fixed = true ∨
    (saturates (offsetted e.colour.red x.gain.red x.offset.red) = false ∧
      saturates (offsetted e.colour.green x.gain.green x.offset.green) = false ∧
      saturates (offsetted e.colour.blue x.gain.blue x.offset.blue) = false) := by
  cases h : e.fixed <;> simp [shadingSaturates, h, and_assoc]

/-- Settles O48. -/
theorem recomputeStepWritesFirstPair : Obligations.RecomputeStepWritesFirstPair := by
  refine ⟨?_, fun s hempty => exec_recomputeStep_none (firstPair_eq_none hempty)⟩
  rintro s k _ _ _ hr hk hin hlow rfl rfl rfl
  rw [exec_recomputeStep_first hr (firstPair_eq_some hk hin hlow), recomputePair_eq]
  refine ⟨fun hsat => ?_, fun hkept => ?_⟩
  · rw [if_pos ((shadingSaturates_iff _ _).mpr hsat)]
    rfl
  · rw [(shadingSaturates_eq_false_iff _ _).mpr hkept]
    rfl

end Sys2Proof.Machine

namespace Sys2Proof.Machine

set_option Elab.async false

open Sys2Proof.Statements

/-! # LOAD_PALETTE and LOAD_SHADE (R108, R109, R111) -/

/-! ## What the two loads write -/

/-- A LOAD_PALETTE body of the right length, entry by entry. -/
theorem loadPaletteEffect_palette {r : Record} (hl : r.body.length = 1 + 2 * headByte r 1) (s : State) {i : Nat}
    (hi : i < 256) : (loadPaletteEffect r s).colour.palette.get i =
      if headByte r 0 ≤ i ∧ i < headByte r 0 + headByte r 1 then
        paletteEntryOf (wordAt r.body (1 + 2 * (i - headByte r 0)), wordAt r.body (2 + 2 * (i - headByte r 0)))
      else s.colour.palette.get i := by
  simp only [loadPaletteEffect, palettePairs_tail hl, List.map_map]
  exact get_setRun_map _ _ hi

theorem loadPaletteEffect_recompute (r : Record) (s : State) {k : Nat} (hk : k < 1024) :
    (loadPaletteEffect r s).colour.recompute.get k =
      (s.colour.recompute.get k ||
        (decide (headByte r 0 ≤ k % 256) && decide (k % 256 < headByte r 0 + headByte r 1))) := by
  rw [loadPaletteEffect, Table.get_mapIdx _ _ hk]

theorem loadShadeEffect_set_self {r : Record} (h : headByte r 0 ≤ 3) (s : State) :
    (loadShadeEffect r s).colour.sets.get (headByte r 0) =
      shadeSetOf r.body (s.colour.sets.get (headByte r 0)).clip :=
  Table.get_modify_self _ _ (by omega)

theorem loadShadeEffect_set_ne {r : Record} (s : State) {n : Nat} (h : n ≠ headByte r 0) :
    (loadShadeEffect r s).colour.sets.get n = s.colour.sets.get n :=
  Table.get_modify_ne _ _ h.symm

theorem loadShadeEffect_recompute (r : Record) (s : State) {k : Nat} (hk : k < 1024) :
    (loadShadeEffect r s).colour.recompute.get k = (s.colour.recompute.get k || decide (k / 256 = headByte r 0)) := by
  rw [loadShadeEffect, Table.get_mapIdx _ _ hk]

/-! ## Accepted records -/

theorem exec_loadPalette {s : State} {f : RxFrame} {r : Record} (h : Accepted s f r 0x22) :
    exec .loadPalette s = .next ((loadPaletteEffect r s).advance r) :=
  takeControl_of_accepted h _ (loadPaletteCheck_eq (kind_of_accepted h))

theorem exec_loadShade {s : State} {f : RxFrame} {r : Record} (h : Accepted s f r 0x23) :
    exec .loadShade s = .next ((loadShadeEffect r s).advance r) :=
  takeControl_of_accepted h _ (loadShadeCheck_eq (kind_of_accepted h))

/-- The run of an accepted LOAD_PALETTE fills its body and fits in the palette (R108). -/
theorem loadPalette_of_accepted {s : State} {f : RxFrame} {r : Record} (h : Accepted s f r 0x22) :
    r.body.length = 1 + 2 * headByte r 1 ∧ headByte r 0 + headByte r 1 ≤ 256 := by
  obtain ⟨-, -, hk, hl, hf⟩ := h
  simp only [lengthMatches, hk, BitVec.reduceToNat, Bool.and_eq_true, decide_eq_true_eq] at hl
  simp only [fieldsInRange, hk, BitVec.reduceToNat, Bool.and_eq_true, decide_eq_true_eq] at hf
  exact ⟨hl.2, hf.1⟩

/-- An accepted LOAD_SHADE names one of the four sets (R111). -/
theorem loadShade_of_accepted {s : State} {f : RxFrame} {r : Record} (h : Accepted s f r 0x23) : headByte r 0 ≤ 3 := by
  obtain ⟨-, -, hk, -, hf⟩ := h
  simp only [fieldsInRange, hk, BitVec.reduceToNat, decide_eq_true_eq] at hf
  exact hf

/-- A loaded palette entry, by the bytes of its two words (spec/12_formats.md). -/
theorem paletteEntryOf_words (r : Record) (a b : Nat) : paletteEntryOf (wordAt r.body a, wordAt r.body b) =
    { colour := ⟨min 1023 (halfAt r a 0), min 1023 (halfAt r a 1), min 1023 (halfAt r b 0)⟩
      fixed := decide (byteAt r b 2 = 1) } := by
  have hfixed : (byteOf (wordAt r.body b) 2 == 1) = decide (byteAt r b 2 = 1) := by
    rw [Bool.eq_iff_iff, beq_iff_eq, decide_eq_true_eq]
    exact byteOf_eq_one_iff
  simp only [paletteEntryOf, hfixed]
  rfl

theorem headByte_eq_byteAt (r : Record) (n : Nat) : headByte r n = byteAt r 0 n := rfl

/-- Settles O15. -/
theorem colourLoadsWrite : Obligations.ColourLoadsWrite := by
  refine ⟨?_, fun s f r h => ?_⟩
  · rintro s f r _ _ h rfl rfl
    simp only [← headByte_eq_byteAt]
    obtain ⟨hlength, hrun⟩ := loadPalette_of_accepted h
    refine ⟨(loadPaletteEffect r s).colour.palette, (loadPaletteEffect r s).colour.recompute, exec_loadPalette h,
      fun i hi hout => ?_, fun k hk => ?_, fun set hset i hi => ?_⟩
    · rw [loadPaletteEffect_palette hlength s hi, if_neg hout]
    · rw [loadPaletteEffect_palette hlength s (by omega), if_pos (by omega), Nat.add_sub_cancel_left,
        paletteEntryOf_words]
    · rw [loadPaletteEffect_recompute r s (by omega), show (set * 256 + i) % 256 = i by omega]
      rfl
  · refine ⟨(loadShadeEffect r s).colour.sets, (loadShadeEffect r s).colour.recompute, exec_loadShade h,
      fun n _ hn => loadShadeEffect_set_ne s hn, ?_, fun set hset i hi => ?_⟩
    · rintro _ rfl
      rw [show byteAt r 0 0 = headByte r 0 from rfl, loadShadeEffect_set_self (loadShade_of_accepted h)]
      exact ⟨rfl, rfl, rfl⟩
    · rw [loadShadeEffect_recompute r s (by omega), show (set * 256 + i) / 256 = set by omega]
      rfl

end Sys2Proof.Machine

namespace Sys2Proof.Machine

set_option Elab.async false

/-! # What every step keeps of the colour unit (R107, R110, R114, R116) -/

/-! ## The commands that leave the colour unit as it is -/

section

variable {s t : State}

theorem live_colour {e : State → State} (hx : live s e = .next t) (he : (e s).colour = s.colour) :
    t.colour = s.colour := live_keeps (P := fun u => u.colour = s.colour) hx rfl fun _ => he

theorem onEvent_colour {b : Bool} {e : State → State} (hx : onEvent s b e = .next t)
    (he : (e s).colour = s.colour) : t.colour = s.colour :=
  onEvent_keeps (P := fun u => u.colour = s.colour) hx rfl fun _ _ => he

theorem takeControl_colour {code : Byte} {check : Record → Option Reason} {effect : Record → State → State}
    (he : ∀ r, (effect r s).colour = s.colour) : (takeControl code check effect s).colour = s.colour :=
  takeControl_keeps (P := fun u => u.colour = s.colour) rfl (fun _ _ _ _ _ => by simp)
    fun _ r _ _ _ _ => by simp [he r]

theorem takePanel_colour {a : PanelAction} {effect : Record → State → State}
    (he : ∀ r, (effect r s).colour = s.colour) : (takePanel a effect s).colour = s.colour :=
  takePanel_keeps (P := fun u => u.colour = s.colour) rfl (takeControl_colour he)

theorem takeDraw_colour (kind : DrawKind) : (takeDraw kind s).colour = s.colour :=
  takeDraw_keeps (P := fun u => u.colour = s.colour) rfl (fun _ _ _ => by simp) (fun _ _ _ _ => by simp)
    fun _ _ _ => by simp

theorem takeAsk_colour {code : Byte} {answer : Nat → RxFrame → Record → State → State}
    (ha : ∀ n f r u, (answer n f r u).colour = u.colour) : (takeAsk code answer s).colour = s.colour :=
  takeAsk_keeps (P := fun u => u.colour = s.colour) rfl (fun _ _ _ => by simp) (fun _ _ _ => by simp [ha])
    fun _ => by simp

theorem answerWith_colour (check : Record → Option Reason) (body : Record → State → List Word) (n : Nat) (f : RxFrame)
    (r : Record) : (answerWith check body n f r s).colour = s.colour := by simp

theorem answerOf_colour (code : Byte) (n : Nat) (f : RxFrame) (r : Record) :
    (answerOf code n f r s).colour = s.colour := by
  rcases answerOf_cases code with e | e | ⟨check, body, e⟩ | e <;> simp [e]

/-- The commands that act on the colour unit: the two loads, the recompute job, the clearing of the clip flags, and the
reset. -/
def movesColour : Instr → Bool
  | .resetAssert | .loadPalette | .loadShade | .clearCounts | .recomputeStep => true
  | _ => false

theorem bannerRead_colour (cursor : Nat) : (s.bannerRead cursor).colour = s.colour := by simp

theorem endPlay_colour : s.endPlay.colour = s.colour := by simp

theorem checkMade_colour (lost : List Nat) : (s.checkMade lost).colour = s.colour := by simp

theorem bannerRecordDone_colour (hx : execBannerRecordDone s = .next t) : t.colour = s.colour := by
  refine onEvent_colour hx ?_
  split
  · have hdone : (match s.engine.job with
        | some job => s.finishJob job
        | none => s).colour = s.colour := by split <;> simp
    dsimp only
    split
    · exact (bannerRead_colour _).trans hdone
    · exact endPlay_colour.trans hdone
  · rfl

theorem keyScan_colour {raw : BitVec 128} (hx : execKeyScan raw s = .next t) : t.colour = s.colour := by
  refine onEvent_colour hx ?_
  dsimp only
  split
  · rfl
  · exact List.foldlRecOn (motive := fun u : State => u.colour = s.colour) _ _
      (List.foldlRecOn (motive := fun u : State => u.colour = s.colour) _ _ rfl fun _ hu _ _ => by simp [hu])
      fun _ hu _ _ => by simp [hu]

theorem retentionCheckPaneDone_colour (hx : execRetentionCheckPaneDone s = .next t) : t.colour = s.colour := by
  refine onEvent_colour hx ?_
  split
  next n lost _ =>
    have hmarked : ∀ b d, (if b = true then s.setDigestState n d else s).colour = s.colour := by
      intro b d
      split <;> rfl
    dsimp only
    split
    · exact hmarked _ _
    · exact (checkMade_colour _).trans (hmarked _ _)
  all_goals rfl

theorem exec_colour {c : Instr} (hc : movesColour c = false) (hx : exec c s = .next t) : t.colour = s.colour := by
  cases c with
  | resetAssert | loadPalette | loadShade | clearCounts | recomputeStep => cases hc
  | resetRelease | presenceContactChange =>
    injection hx with hx
    subst hx
    split <;> rfl
  | clearPassEnd | presenceClosed | presenceOpen | startSymbol | silenceTimeout | bannerDelayExpiry | flowSymbolSend
  | keysFrameStart | noticeFrameStart | dozeTimerExpiry | powerUpEnd | powerDownEnd | frameEnd =>
    rw [exec] at hx
    exact onEvent_colour hx (by simp)
  | laneLockGained | upstreamFrameEnd =>
    rw [exec] at hx
    exact live_colour hx (by simp)
  | frameTake | brokenRecord | replyFrameStart | retentionPassStart | drawComplete =>
    rw [exec] at hx
    refine onEvent_colour hx ?_
    (repeat' split) <;> simp
  | laneLockLost | dataSymbol | oscillatorWaitEnd | retentionClearPaneDone | bannerGrant =>
    rw [exec] at hx
    refine onEvent_colour hx ?_
    dsimp only
    (repeat' split) <;> simp
  | slotGranted =>
    rw [exec] at hx
    refine live_colour hx ?_
    (repeat' split) <;> simp [answerOf_colour]
  | unknownRecord | digestRunEnd =>
    rw [exec] at hx
    refine live_colour hx ?_
    (repeat' split) <;> simp
  | retentionPassPaneDone =>
    rw [exec] at hx
    refine live_colour hx ?_
    dsimp only
    (repeat' split) <;> simp
  | retentionCheckPaneDone => exact retentionCheckPaneDone_colour hx
  | bannerRecordDone => exact bannerRecordDone_colour hx
  | keyScan raw => exact keyScan_colour hx
  | fill | clear | glyph | planes | move | keymove =>
    rw [exec] at hx
    exact live_colour hx (takeDraw_colour _)
  | loadPane =>
    rw [exec] at hx
    exact live_colour hx (takeControl_colour fun _ => by simp [loadPaneEffect])
  | reset =>
    rw [exec] at hx
    exact live_colour hx (takeControl_colour fun _ => by simp)
  | loadPen | loadKeymap | loadBanner | setBanner | backlight | lamps | setKeys | setNotice =>
    rw [exec] at hx
    exact live_colour hx (takeControl_colour fun _ => rfl)
  | setView =>
    rw [exec] at hx
    refine live_colour hx (takeControl_colour fun _ => ?_)
    unfold setViewEffect
    split <;> rfl
  | doze =>
    rw [exec] at hx
    refine live_colour hx (takeControl_colour fun _ => ?_)
    split <;> simp
  | setLink | setOutage =>
    rw [exec] at hx
    refine live_colour hx (takeControl_colour fun _ => ?_)
    dsimp only
    (repeat' split) <;> simp
  | panelStart | panelStop | panelFull | panelPartial | panelIdleOn | panelIdleOff | panelShow | panelBlank =>
    rw [exec] at hx
    exact live_colour hx (takePanel_colour fun _ => by simp)
  | askCell | askTable | askId =>
    rw [exec] at hx
    exact live_colour hx (takeAsk_colour fun _ _ _ _ => answerWith_colour _ _ _ _ _)
  | askStatus | askDigest =>
    rw [exec] at hx
    exact live_colour hx (takeAsk_colour fun _ _ _ _ => by simp)
  | dozePixelLoss x y v =>
    rw [exec, execDozePixelLoss] at hx
    split at hx
    · exact onEvent_colour hx rfl
    · cases hx

end

/-! ## The commands that act on the colour unit -/

/-- The clip flags do not matter: a colour unit with the same palette, gains, offsets, shaded entries and recompute set is
as sound. -/
theorem ColourSound.of_gains_offsets {s t : State} (h : ColourSound s) (hp : t.colour.palette = s.colour.palette)
    (hv : t.colour.shaded = s.colour.shaded) (hr : t.colour.recompute = s.colour.recompute)
    (hx : ∀ n < 4, (t.colour.sets.get n).gain = (s.colour.sets.get n).gain ∧
      (t.colour.sets.get n).offset = (s.colour.sets.get n).offset) : ColourSound t where
  palette := by rw [hp]; exact h.palette
  gains n hn := by rw [(hx n hn).1]; exact h.gains n hn
  offsets n hn := by rw [(hx n hn).2]; exact h.offsets n hn
  shaded := by rw [hv]; exact h.shaded
  current k hk hout := by
    obtain ⟨hgain, hoffset⟩ := hx (k / 256) (by omega)
    rw [hv, h.current k hk (hr ▸ hout), hp]
    simp only [shadedValues, hgain, hoffset]

theorem ColourSound.congr {s t : State} (h : ColourSound s) (hc : t.colour = s.colour := by simp) : ColourSound t :=
  h.of_gains_offsets (by rw [hc]) (by rw [hc]) (by rw [hc]) fun _ _ => by rw [hc]; exact ⟨rfl, rfl⟩

theorem clampChannel_le (v : BitVec 16) : clampChannel v ≤ 1023 := min_le_left _ _

theorem clampGain_le (v : BitVec 16) : clampGain v ≤ 511 := min_le_left _ _

theorem clampOffset_within (v : BitVec 16) : -512 ≤ clampOffset v ∧ clampOffset v ≤ 511 := by
  unfold clampOffset
  omega

/-- The pairs whose palette entry changes join the recompute set (R109). -/
theorem ColourSound.loadPalette {s : State} (h : ColourSound s) {r : Record}
    (hl : r.body.length = 1 + 2 * headByte r 1) : ColourSound (loadPaletteEffect r s) where
  palette i hi := by
    rw [loadPaletteEffect_palette hl s hi]
    split
    · exact ⟨clampChannel_le _, clampChannel_le _, clampChannel_le _⟩
    · exact h.palette i hi
  gains := h.gains
  offsets := h.offsets
  shaded := h.shaded
  current k hk hout := by
    simp only [loadPaletteEffect_recompute r s hk, Bool.or_eq_false_iff, Bool.and_eq_false_iff,
      decide_eq_false_iff_not] at hout
    obtain ⟨hsame, hrun⟩ := hout
    rw [loadPaletteEffect_palette hl s (by omega), if_neg (by omega)]
    exact h.current k hk hsame

/-- The pairs of the set that changes join the recompute set (R111). -/
theorem ColourSound.loadShade {s : State} (h : ColourSound s) {r : Record} (hn : headByte r 0 ≤ 3) :
    ColourSound (loadShadeEffect r s) where
  palette := h.palette
  gains n hn4 := by
    by_cases hset : n = headByte r 0
    · rw [hset, loadShadeEffect_set_self hn]
      exact ⟨clampGain_le _, clampGain_le _, clampGain_le _⟩
    · rw [loadShadeEffect_set_ne s hset]
      exact h.gains n hn4
  offsets n hn4 := by
    by_cases hset : n = headByte r 0
    · rw [hset, loadShadeEffect_set_self hn]
      exact ⟨clampOffset_within _, clampOffset_within _, clampOffset_within _⟩
    · rw [loadShadeEffect_set_ne s hset]
      exact h.offsets n hn4
  shaded := h.shaded
  current k hk hout := by
    simp only [loadShadeEffect_recompute r s hk, Bool.or_eq_false_iff, decide_eq_false_iff_not] at hout
    obtain ⟨hsame, hset⟩ := hout
    rw [loadShadeEffect_set_ne s hset]
    exact h.current k hk hsame

/-- The pair that leaves the recompute set is current from then on (R116). -/
theorem ColourSound.rewritePair {s : State} (h : ColourSound s) (k : Nat) : ColourSound (s.rewritePair k) where
  palette := h.palette
  gains := h.gains
  offsets := h.offsets
  shaded m hm := by
    by_cases hmk : k = m
    · subst hmk
      rw [State.rewritePair, Table.get_set_self _ _ hm]
      exact ⟨panelValue_le _ _ _ _, panelValue_le _ _ _ _, panelValue_le _ _ _ _⟩
    · rw [State.rewritePair, Table.get_set_ne _ _ hmk]
      exact h.shaded m hm
  current m hm hout := by
    by_cases hmk : k = m
    · subst hmk
      exact Table.get_set_self _ _ hm
    · rw [State.rewritePair, Table.get_set_ne _ _ hmk] at hout
      rw [State.rewritePair, Table.get_set_ne _ _ hmk]
      exact h.current m hm hout

theorem ColourSound.setClip {s : State} (h : ColourSound s) (set : Nat) : ColourSound (s.setClip set) :=
  h.of_gains_offsets rfl rfl rfl fun n _ => by
    simp only [State.setClip, State.setFlag_colour, Table.get_modify]
    split <;> exact ⟨rfl, rfl⟩

theorem ColourSound.recomputePair {s : State} (h : ColourSound s) (k : Nat) : ColourSound (s.recomputePair k) := by
  rw [recomputePair_eq]
  split
  · exact (h.rewritePair k).setClip _
  · exact h.rewritePair k

theorem ColourSound.clearClips {s : State} (h : ColourSound s) : ColourSound
    { s with colour := { s.colour with sets := s.colour.sets.mapIdx (fun _ x => { x with clip := false }) } } :=
  h.of_gains_offsets rfl rfl rfl fun n hn => by
    rw [Table.get_mapIdx _ _ hn]
    exact ⟨rfl, rfl⟩

/-- What a control record's effect keeps where its checks pass, its taking keeps. -/
theorem ColourSound.takeControl {s : State} (h : ColourSound s) {code : Byte} {check : Record → Option Reason}
    {effect : Record → State → State} (he : ∀ r, check r = none → ColourSound (effect r s)) :
    ColourSound (takeControl code check effect s) :=
  takeControl_keeps h (fun _ _ _ _ _ => h.congr) fun _ r _ _ _ hc => (he r hc).congr

theorem loadPaletteCheck_length {r : Record} (h : loadPaletteCheck r = none) :
    r.body.length = 1 + 2 * headByte r 1 := by
  simp only [loadPaletteCheck, firstFailure_eq_none, List.forall_mem_cons, Bool.and_eq_true, decide_eq_true_eq] at h
  obtain ⟨⟨-, hlength⟩, -⟩ := h
  exact hlength

theorem loadShadeCheck_set {r : Record} (h : loadShadeCheck r = none) : headByte r 0 ≤ 3 := by
  simp only [loadShadeCheck, firstFailure_eq_none, List.forall_mem_cons, decide_eq_true_eq] at h
  obtain ⟨-, hset, -⟩ := h
  exact hset

theorem ColourSound.exec {c : Instr} {s t : State} (h : ColourSound s) (hx : exec c s = .next t) : ColourSound t := by
  cases hc : movesColour c with
  | false => exact h.congr (exec_colour hc hx)
  | true =>
    cases c with
    | resetAssert =>
      injection hx with hx
      subst hx
      exact reset_colourSound.congr rfl
    | loadPalette =>
      exact live_keeps hx h fun _ => h.takeControl fun _ hcheck => h.loadPalette (loadPaletteCheck_length hcheck)
    | loadShade =>
      exact live_keeps hx h fun _ => h.takeControl fun _ hcheck => h.loadShade (loadShadeCheck_set hcheck)
    | clearCounts =>
      exact live_keeps hx h fun _ => h.takeControl fun _ _ => clearClips (s := s.zeroCounters) h.congr
    | recomputeStep =>
      rw [Machine.exec] at hx
      refine live_keeps hx h fun _ => ?_
      split
      · exact h.recomputePair _
      · exact h
    | _ => cases hc

/-- Settles O58. -/
theorem stepsKeepColourSound : Obligations.StepsKeepColourSound := fun _ _ h hx =>
  step_keeps (fun _ _ h => h.congr) (fun _ h => idle_keeps (fun _ _ h => h.congr) (fun _ h => h.congr) h)
    (fun _ _ _ h hx => h.exec hx) h hx

end Sys2Proof.Machine

namespace Sys2Proof.Machine

set_option Elab.async false

/-! # The panel's requests and phases (R122, R127 to R136) -/

/-! ## What an operation leaves of the sequencer -/

/-- START is requested (R129). -/
def Panel.startRequested (p : Panel) : Panel :=
  match p.state with
  | .off => { p with state := .powerUp 0, request := .none }
  | .powerUp _ => { p with request := .none }
  | .blankFrames _ => { p with request := .none }
  | .running => p
  | .stopping _ => { p with request := .start }

/-- RUNNING is left for STOPPING (R131). -/
def Panel.stopped (p : Panel) : Panel := { p.latchModes with state := .stopping 0, request := .none, actual := 0 }

/-- STOP is requested (R129). -/
def Panel.stopRequested (p : Panel) : Panel :=
  match p.state with
  | .off => p
  | .powerUp _ => { p with request := .stop }
  | .blankFrames _ => { p with request := .stop }
  | .running => p.stopped
  | .stopping _ => { p with request := .none }

/-- The view where STOP is requested: a frame under way in RUNNING is cut short (R131). -/
def Scanout.stopRequested (v : Scanout) (p : PanelState) : Scanout := if p = .running then v.frameOver else v

/-- The end of the power-down (R131). -/
def Panel.powerDownEnded (p : Panel) : Panel :=
  if p.request = .start then { p with state := .powerUp 0, request := .none } else { p with state := .off }

/-- A frame end (R130, R134, R136). -/
def Panel.frameEnded (p : Panel) : Panel :=
  match p.state with
  | .blankFrames n =>
    if n = 0 then { p.latchModes with state := .blankFrames 1 }
    else if p.request = .stop then p.stopped
    else { p.latchModes with state := .running }
  | .running => { p.latchModes with actual := backlightStep p.actual p.target }
  | .off => p.latchModes
  | .powerUp _ => p.latchModes
  | .stopping _ => p.latchModes

/-- The four rows of the request table (R129). -/
theorem PanelState.row (p : PanelState) :
    p = .off ∨ p.starting = true ∨ p = .running ∨ p.isStopping = true := by
  cases p <;> simp [PanelState.starting, PanelState.isStopping]

namespace Panel

variable {p : Panel}

theorem startRequested_off (h : p.state = .off) :
    p.startRequested = { p with state := .powerUp 0, request := .none } := by
  simp only [startRequested, h]

theorem startRequested_starting (h : p.state.starting = true) : p.startRequested = { p with request := .none } := by
  unfold startRequested
  split <;> simp_all [PanelState.starting]

theorem startRequested_running (h : p.state = .running) : p.startRequested = p := by
  simp only [startRequested, h]

theorem startRequested_stopping (h : p.state.isStopping = true) : p.startRequested = { p with request := .start } := by
  unfold startRequested
  split <;> simp_all [PanelState.isStopping]

theorem stopRequested_off (h : p.state = .off) : p.stopRequested = p := by simp only [stopRequested, h]

theorem stopRequested_starting (h : p.state.starting = true) : p.stopRequested = { p with request := .stop } := by
  unfold stopRequested
  split <;> simp_all [PanelState.starting]

theorem stopRequested_running (h : p.state = .running) : p.stopRequested = p.stopped := by
  simp only [stopRequested, h]

theorem stopRequested_stopping (h : p.state.isStopping = true) : p.stopRequested = { p with request := .none } := by
  unfold stopRequested
  split <;> simp_all [PanelState.isStopping]

end Panel

theorem starting_ne_running {p : PanelState} (h : p.starting = true) : p ≠ .running := by rintro rfl; cases h

theorem isStopping_ne_running {p : PanelState} (h : p.isStopping = true) : p ≠ .running := by rintro rfl; cases h

theorem Scanout.stopRequested_of_ne {p : PanelState} (v : Scanout) (h : p ≠ .running) : v.stopRequested p = v :=
  if_neg h

section

variable (s : State)

theorem requestStart_eq : s.requestStart = { s with panel := s.panel.startRequested } := by
  cases h : s.panel.state <;>
    simp [State.requestStart, Panel.startRequested, State.startPanel, State.setPanelRequest, h]

theorem stopPanel_eq :
    s.stopPanel = State.releaseSync { s with scan := s.scan.frameOver, panel := s.panel.stopped } := rfl

theorem requestStop_running (h : s.panel.state = .running) : s.requestStop = s.stopPanel := by
  unfold State.requestStop
  rw [h]

theorem requestStop_elsewhere (h : s.panel.state ≠ .running) :
    s.requestStop = { s with panel := s.panel.stopRequested } := by
  cases hp : s.panel.state with
  | running => exact absurd hp h
  | off | powerUp t | blankFrames n | stopping t =>
    simp [State.requestStop, Panel.stopRequested, State.setPanelRequest, hp]

theorem stopPanel_display : s.stopPanel.scan = s.scan.frameOver ∧ s.stopPanel.panel = s.panel.stopped := by
  simp [stopPanel_eq]

theorem requestStop_display :
    s.requestStop.scan = s.scan.stopRequested s.panel.state ∧ s.requestStop.panel = s.panel.stopRequested := by
  by_cases h : s.panel.state = .running
  · obtain ⟨hv, hp⟩ := stopPanel_display s
    simp only [requestStop_running s h, hv, hp, Scanout.stopRequested, Panel.stopRequested, h, if_true, and_self]
  · simp only [requestStop_elsewhere s h, Scanout.stopRequested, h, if_false, and_self]

theorem reachOff_eq : s.reachOff = { s.setFlag .panelReady with panel := s.panel.powerDownEnded } := by
  unfold State.reachOff Panel.powerDownEnded
  dsimp only
  split
  next h => rw [if_pos (by exact h)]; rfl
  next h => rw [if_neg (by exact h)]; rfl

theorem reachRunning_display :
    s.reachRunning.scan = (if s.panel.request = .stop then s.scan.frameOver else s.scan) ∧
      s.reachRunning.panel =
        (if s.panel.request = .stop then Panel.stopped { s.panel with state := .running }
          else { s.panel with state := .running }) := by
  split
  next h => rw [reachRunning_stop h]; exact stopPanel_display _
  next h => rw [reachRunning_stay h]; exact ⟨rfl, rfl⟩

/-- What FRAME_END makes of the state (R127). -/
def State.endPanelFrame : State :=
  State.releaseSync (State.panelAtFrameEnd { s with scan := s.scan.frameEnd, panel := s.panel.latchModes })

/-- What a frame end leaves of view and panel, also where the next frame is cut short at once (R130). -/
theorem endPanelFrame_display :
    s.endPanelFrame.scan = s.scan.frameEnd ∧ s.endPanelFrame.panel = s.panel.frameEnded := by
  simp only [State.endPanelFrame, State.releaseSync_frame]
  unfold State.panelAtFrameEnd Panel.frameEnded
  cases hp : s.panel.state with
  | blankFrames n =>
    simp only [Panel.latchModes, hp]
    split
    · exact ⟨rfl, rfl⟩
    · simp only [reachRunning_display]
      constructor
      · split <;> rfl
      · split <;> rfl
  | off | powerUp t | running | stopping t => simp [Panel.latchModes, hp]

end

end Sys2Proof.Machine

namespace Sys2Proof.Machine

set_option Elab.async false

/-! # What a step does to the view and the panel (R120 to R136) -/

/-! ## The moves -/

/-- The panel is OFF or on its way to OFF, as DozingPanel has it in DOZE and WAKING (R132, R168). -/
def Panel.goesOff (p : Panel) : Prop :=
  p.state = .off ∨ (p.state.isStopping = true ∧ p.request = .none) ∨ (p.state.starting = true ∧ p.request = .stop)

/-- What one step can make of view and panel, but for a START and a STOP. -/
inductive PanelMove (v : Scanout) (p : Panel) : Scanout → Panel → Prop
  | stay : PanelMove v p v p
  | view {w : View} (hw : w.inRange) :
      PanelMove v p (if p.state.scanning then { v with pendingView := some w } else { v with active := w }) p
  | display (m : Display) :
      PanelMove v p v (if p.state.scanning then { p with pendingDisplay := some m } else { p with display := m })
  | area {m : Area} (hm : m.inRange) :
      PanelMove v p v (if p.state.scanning then { p with pendingArea := some m } else { p with area := m })
  | idleMode (m : Bool) :
      PanelMove v p v (if p.state.scanning then { p with pendingIdle := some m } else { p with idleMode := m })
  | target {n : Nat} (hn : n ≤ 255) : PanelMove v p v { p with target := n }
  | powerUpEnd {t : Nat} (h : p.state = .powerUp t) :
      PanelMove v p { v with scanned := 0 } { p with state := .blankFrames 0 }
  | powerDownEnd {t : Nat} (h : p.state = .stopping t) : PanelMove v p v p.powerDownEnded
  | frameEnd (h : p.state.scanning = true) : PanelMove v p v.frameEnd p.frameEnded
  | later (k : Nat) :
      PanelMove v p (if p.state.scanning then v.scanOn k else v) { p with state := p.state.later }
  | reset : PanelMove v p State.reset.scan Panel.atReset

/-- The device power state is DOZE or WAKING. -/
def State.dozing (s : State) : Prop := s.power.device = .doze ∨ s.power.device = .waking

/-- Everything that one step can do to view and panel. A START is for a part that is awake, or for a record in hand, and
a part in DOZE or WAKING has none; a STOP may be requested in every device power state. -/
inductive PanelStep (s t : State) : Prop
  | move (hm : PanelMove s.scan s.panel t.scan t.panel) (hd : t.dozing → s.dozing)
  | start (hv : t.scan = s.scan) (hp : t.panel = s.panel.startRequested) (hd : WorkSound s → ¬ t.dozing)
  | stop (hv : t.scan = s.scan.stopRequested s.panel.state) (hp : t.panel = s.panel.stopRequested)

/-! ## The panel stays sound -/

theorem panelPositions_pos : 0 < panelPositions := by decide

theorem PanelSound.congr {s t : State} (h : PanelSound s) (hv : t.scan = s.scan) (hp : t.panel = s.panel) :
    PanelSound t := by
  have he : PanelSound { t with scan := s.scan, panel := s.panel } := { h with }
  rw [← hv, ← hp] at he
  exact he

/-- The view and the band that a frame end or a stop takes into force lie in their ranges. -/
theorem PanelSound.latched {s : State} (h : PanelSound s) :
    s.scan.frameOver.active.inRange ∧ s.panel.latchModes.area.inRange := by
  constructor
  · cases hv : s.scan.pendingView with
    | none => simpa [hv] using h.active
    | some w => simpa [hv] using h.pending w hv
  · cases ha : s.panel.pendingArea with
    | none => simpa [Panel.latchModes, ha] using h.area
    | some m => simpa [Panel.latchModes, ha] using h.nextArea m ha

/-- With nothing scanned and nothing pending, what is left to be seen is the power state. -/
theorem PanelSound.frameStart {s : State} {v : Scanout} {p : Panel} (h : PanelSound s)
    (hv : v.active = s.scan.frameOver.active ∧ v.pendingView = none ∧ v.scanned = 0)
    (hp : p = { s.panel.latchModes with state := p.state, request := p.request, actual := p.actual })
    (hblank : ∀ n, p.state = .blankFrames n → n ≤ 1) (hstart : p.request = .start → p.state.isStopping = true)
    (hstop : p.request = .stop → p.state.starting = true) (hdark : p.state ≠ .running → p.actual = 0)
    (hactual : p.actual ≤ 255) : PanelSound { s with scan := v, panel := p } := by
  obtain ⟨hactive, hpending, hscanned⟩ := hv
  obtain ⟨hview, harea⟩ := h.latched
  exact
    { pendingView := fun hn => absurd hpending hn
      pendingDisplay := fun hn => absurd (by rw [hp]; rfl) hn
      pendingArea := fun hn => absurd (by rw [hp]; rfl) hn
      pendingIdle := fun hn => absurd (by rw [hp]; rfl) hn
      blank := hblank
      requestStart := hstart
      requestStop := hstop
      dark := hdark
      levels := ⟨hactual, by rw [hp]; exact h.levels.2⟩
      active := by simpa only [hactive] using hview
      pending := fun w hw => by simp [hpending] at hw
      area := by rw [hp]; exact harea
      nextArea := fun a ha => by rw [hp] at ha; cases ha
      frame := hscanned.symm ▸ panelPositions_pos
      noFrame := fun _ => hscanned }

theorem PanelSound.stopped {s : State} (h : PanelSound s) :
    PanelSound { s with scan := s.scan.frameOver, panel := s.panel.stopped } :=
  h.frameStart ⟨rfl, rfl, rfl⟩ rfl (fun _ hn => nomatch hn) (fun hn => nomatch hn) (fun hn => nomatch hn) (fun _ => rfl)
    (Nat.zero_le _)

theorem backlightStep_le {actual target bound : Nat} (ha : actual ≤ bound) (ht : target ≤ bound) :
    backlightStep actual target ≤ bound := by
  unfold backlightStep
  split
  · omega
  · split <;> omega

theorem PanelSound.frameEnded {s : State} (h : PanelSound s) (hs : s.panel.state.scanning = true) :
    PanelSound { s with scan := s.scan.frameEnd, panel := s.panel.frameEnded } := by
  have hnever : s.panel.request ≠ .start := fun hq => by
    have := h.requestStart hq
    cases hp : s.panel.state <;> simp_all [PanelState.scanning, PanelState.isStopping]
  cases hp : s.panel.state with
  | blankFrames n =>
    have hdark : s.panel.actual = 0 := h.dark (by simp [hp])
    simp only [Panel.frameEnded, hp]
    split
    · exact h.frameStart ⟨rfl, rfl, rfl⟩ rfl (by simp) (fun hq => absurd hq hnever) (fun _ => rfl) (fun _ => hdark)
        h.levels.1
    · split
      · exact h.frameStart ⟨rfl, rfl, rfl⟩ rfl (fun _ hn => nomatch hn) (fun hn => nomatch hn) (fun hn => nomatch hn)
          (fun _ => rfl) (Nat.zero_le _)
      next hq =>
        exact h.frameStart ⟨rfl, rfl, rfl⟩ rfl (fun _ hn => nomatch hn) (fun hq => absurd hq hnever)
          (fun hq' => absurd hq' hq) (fun hn => absurd rfl hn) h.levels.1
  | running =>
    have hstop : s.panel.request ≠ .stop := fun hq => by simpa [hp, PanelState.starting] using h.requestStop hq
    simp only [Panel.frameEnded, hp]
    exact h.frameStart ⟨rfl, rfl, rfl⟩ rfl (by simp [Panel.latchModes, hp]) (fun hq => absurd hq hnever)
      (fun hq => absurd hq hstop) (fun hn => absurd hp hn) (backlightStep_le h.levels.1 h.levels.2)
  | off | powerUp t | stopping t => rw [hp] at hs; cases hs

/-- Another power state that is as much scanning, and a request that fits it. -/
theorem PanelSound.rephase {s : State} (h : PanelSound s) {st : PanelState} {q : PanelRequest}
    (hscan : st.scanning = s.panel.state.scanning) (hblank : ∀ n, st = .blankFrames n → n ≤ 1)
    (hstart : q = .start → st.isStopping = true) (hstop : q = .stop → st.starting = true)
    (hdark : st ≠ .running → s.panel.actual = 0) :
    PanelSound { s with panel := { s.panel with state := st, request := q } } :=
  { h with
    pendingView := fun hn => hscan.trans (h.pendingView hn)
    pendingDisplay := fun hn => hscan.trans (h.pendingDisplay hn)
    pendingArea := fun hn => hscan.trans (h.pendingArea hn)
    pendingIdle := fun hn => hscan.trans (h.pendingIdle hn)
    blank := hblank
    requestStart := hstart
    requestStop := hstop
    dark := hdark
    noFrame := fun hn => h.noFrame (hscan.symm.trans hn) }

/-- Another request that fits the power state. -/
theorem PanelSound.request {s : State} (h : PanelSound s) {q : PanelRequest}
    (hstart : q = .start → s.panel.state.isStopping = true) (hstop : q = .stop → s.panel.state.starting = true) :
    PanelSound { s with panel := { s.panel with request := q } } :=
  h.rephase rfl h.blank hstart hstop h.dark

/-- A power-up begins. -/
theorem PanelSound.powerUp {s : State} (h : PanelSound s) (hs : s.panel.state.scanning = false) :
    PanelSound { s with panel := { s.panel with state := .powerUp 0, request := .none } } :=
  h.rephase hs.symm (fun _ hn => nomatch hn) (fun hn => nomatch hn) (fun hn => nomatch hn)
    fun _ => h.dark fun hr => by rw [hr] at hs; cases hs

theorem PanelSound.startRequested {s : State} (h : PanelSound s) :
    PanelSound { s with panel := s.panel.startRequested } := by
  rcases s.panel.state.row with hp | hp | hp | hp
  · rw [Panel.startRequested_off hp]
    exact h.powerUp (by rw [hp]; rfl)
  · rw [Panel.startRequested_starting hp]
    exact h.request (fun hn => nomatch hn) (fun hn => nomatch hn)
  · rw [Panel.startRequested_running hp]
    exact h
  · rw [Panel.startRequested_stopping hp]
    exact h.request (fun _ => hp) (fun hn => nomatch hn)

theorem PanelSound.stopRequested {s : State} (h : PanelSound s) :
    PanelSound { s with scan := s.scan.stopRequested s.panel.state, panel := s.panel.stopRequested } := by
  rcases s.panel.state.row with hp | hp | hp | hp
  · rw [Panel.stopRequested_off hp, Scanout.stopRequested_of_ne _ (by simp [hp])]
    exact h
  · rw [Panel.stopRequested_starting hp, Scanout.stopRequested_of_ne _ (starting_ne_running hp)]
    exact h.request (fun hn => nomatch hn) (fun _ => hp)
  · rw [Panel.stopRequested_running hp, Scanout.stopRequested, if_pos hp]
    exact h.stopped
  · rw [Panel.stopRequested_stopping hp, Scanout.stopRequested_of_ne _ (isStopping_ne_running hp)]
    exact h.request (fun hn => nomatch hn) (fun hn => nomatch hn)

theorem PanelSound.powerDownEnded {s : State} {t : Nat} (h : PanelSound s) (hp : s.panel.state = .stopping t) :
    PanelSound { s with panel := s.panel.powerDownEnded } := by
  have hs : s.panel.state.scanning = false := by rw [hp]; rfl
  unfold Panel.powerDownEnded
  split
  · exact h.powerUp hs
  next hq =>
    have hstop : s.panel.request ≠ .stop := fun hq' => by simpa [hp, PanelState.starting] using h.requestStop hq'
    exact h.rephase (q := s.panel.request) hs.symm (fun _ hn => nomatch hn) (fun hq' => absurd hq' hq)
      (fun hq' => absurd hq' hstop) fun _ => h.dark (by simp [hp])

theorem PanelSound.powerUpEnd {s : State} {t : Nat} (h : PanelSound s) (hp : s.panel.state = .powerUp t) :
    PanelSound { s with scan := { s.scan with scanned := 0 }, panel := { s.panel with state := .blankFrames 0 } } :=
  { h with
    pendingView := fun _ => rfl
    pendingDisplay := fun _ => rfl
    pendingArea := fun _ => rfl
    pendingIdle := fun _ => rfl
    blank := by simp
    requestStart := fun hq => by simpa [hp, PanelState.isStopping] using h.requestStart hq
    requestStop := fun _ => rfl
    dark := fun _ => h.dark (by simp [hp])
    frame := panelPositions_pos
    noFrame := fun hn => nomatch hn }

@[simp] theorem later_isStopping (p : PanelState) : p.later.isStopping = p.isStopping := by cases p <;> rfl

@[simp] theorem later_starting (p : PanelState) : p.later.starting = p.starting := by cases p <;> rfl

theorem later_eq_running (p : PanelState) : p.later = .running ↔ p = .running := by
  cases p <;> simp [PanelState.later]

theorem later_eq_off (p : PanelState) : p.later = .off ↔ p = .off := by cases p <;> simp [PanelState.later]

theorem later_eq_blankFrames (p : PanelState) (n : Nat) : p.later = .blankFrames n ↔ p = .blankFrames n := by
  cases p <;> simp [PanelState.later]

/-- The frame goes on in the scan, short of its last position (R127). -/
theorem PanelSound.scanOn {s : State} (h : PanelSound s) (hs : s.panel.state.scanning = true) (k : Nat) :
    PanelSound { s with scan := s.scan.scanOn k } :=
  { h with
    frame := by
      simp only [Scanout.scanOn_scanned]
      exact lt_of_le_of_lt (min_le_left _ _) (Nat.sub_lt (by decide) one_pos)
    noFrame := fun hn => by rw [hs] at hn; cases hn }

theorem PanelSound.later {s : State} (h : PanelSound s) (k : Nat) :
    PanelSound { s with
      scan := if s.panel.state.scanning then s.scan.scanOn k else s.scan
      panel := { s.panel with state := s.panel.state.later } } := by
  have hscan : PanelSound { s with scan := if s.panel.state.scanning then s.scan.scanOn k else s.scan } := by
    split
    next hs => exact h.scanOn hs k
    · exact h
  exact hscan.rephase (by simp) (fun n hn => h.blank n ((later_eq_blankFrames _ n).mp hn))
    (fun hq => by simpa using h.requestStart hq) (fun hq => by simpa using h.requestStop hq)
    fun hn => h.dark fun hr => hn ((later_eq_running _).mpr hr)

theorem PanelMove.sound {s : State} {v : Scanout} {p : Panel} (hm : PanelMove s.scan s.panel v p) (h : PanelSound s) :
    PanelSound { s with scan := v, panel := p } := by
  cases hm with
  | stay => exact h
  | view hw =>
    split
    next hs => exact { h with pendingView := fun _ => hs, pending := fun w hw' => Option.some.inj hw' ▸ hw }
    · exact { h with active := hw }
  | display m =>
    split
    next hs => exact { h with pendingDisplay := fun _ => hs }
    · exact { h with }
  | area hm =>
    split
    next hs => exact { h with pendingArea := fun _ => hs, nextArea := fun a ha => Option.some.inj ha ▸ hm }
    · exact { h with area := hm }
  | idleMode m =>
    split
    next hs => exact { h with pendingIdle := fun _ => hs }
    · exact { h with }
  | target hn => exact { h with levels := ⟨h.levels.1, hn⟩ }
  | powerUpEnd hp => exact h.powerUpEnd hp
  | powerDownEnd hp => exact h.powerDownEnded hp
  | frameEnd hs => exact h.frameEnded hs
  | later k => exact h.later k
  | reset => exact reset_panelSound.congr rfl rfl

theorem PanelStep.sound {s t : State} (hx : PanelStep s t) (h : PanelSound s) : PanelSound t := by
  cases hx with
  | move hm => exact (hm.sound h).congr rfl rfl
  | start hv hp => exact h.startRequested.congr hv hp
  | stop hv hp => exact h.stopRequested.congr hv hp

/-! ## A panel in DOZE and WAKING -/

theorem Panel.stopRequested_goesOff (p : Panel) : p.stopRequested.goesOff := by
  rcases p.state.row with hp | hp | hp | hp
  · rw [stopRequested_off hp]
    exact .inl hp
  · rw [stopRequested_starting hp]
    exact .inr (.inr ⟨hp, rfl⟩)
  · rw [stopRequested_running hp]
    exact .inr (.inl ⟨rfl, rfl⟩)
  · rw [stopRequested_stopping hp]
    exact .inr (.inl ⟨hp, rfl⟩)

theorem PanelMove.goesOff {v v' : Scanout} {p p' : Panel} (hm : PanelMove v p v' p') (h : p.goesOff) : p'.goesOff := by
  cases hm with
  | stay | view => exact h
  | display | area | idleMode => split <;> exact h
  | target => exact h
  | powerUpEnd hp =>
    have hq : p.request = .stop := by
      simpa [Panel.goesOff, hp, PanelState.isStopping, PanelState.starting] using h
    exact .inr (.inr ⟨rfl, hq⟩)
  | powerDownEnd hp =>
    have hq : p.request = .none := by
      simpa [Panel.goesOff, hp, PanelState.isStopping, PanelState.starting] using h
    simp [Panel.goesOff, Panel.powerDownEnded, hq]
  | frameEnd hs =>
    cases hp : p.state with
    | blankFrames n =>
      have hq : p.request = .stop := by
        simpa [Panel.goesOff, hp, PanelState.isStopping, PanelState.starting] using h
      simp only [Panel.frameEnded, hp, hq, if_true]
      split
      · exact .inr (.inr ⟨rfl, hq⟩)
      · exact .inr (.inl ⟨rfl, rfl⟩)
    | running => simp [Panel.goesOff, hp, PanelState.isStopping, PanelState.starting] at h
    | off | powerUp t | stopping t => rw [hp] at hs; cases hs
  | later k => simpa [Panel.goesOff, later_eq_off] using h
  | reset => exact .inl rfl

theorem PanelStep.dozingPanel {s t : State} (hx : PanelStep s t) (hw : WorkSound s) (h : DozingPanel s) :
    DozingPanel t := by
  intro ht
  cases hx with
  | move hm hd => exact hm.goesOff (h (hd ht))
  | start _ _ hd => exact absurd ht (hd hw)
  | stop _ hp => rw [hp]; exact Panel.stopRequested_goesOff _

/-! ## One view and one set of modes through a frame -/

/-- The scan goes forward in its frame, with the view, the modes and the backlight as they are. -/
structure SameFrame (v : Scanout) (p : Panel) (v' : Scanout) (p' : Panel) : Prop where
  scanned : v.scanned ≤ v'.scanned := by exact le_refl _
  active : v'.active = v.active := by rfl
  display : p'.display = p.display := by rfl
  area : p'.area = p.area := by rfl
  idleMode : p'.idleMode = p.idleMode := by rfl
  actual : p'.actual = p.actual := by rfl

theorem PanelMove.sameFrame {v v' : Scanout} {p p' : Panel} (hm : PanelMove v p v' p') (hf : v.scanned < panelPositions)
    (hs : p.state.scanning = true) (hs' : p'.state.scanning = true) (hc : v'.frameCounter = v.frameCounter) :
    SameFrame v p v' p' := by
  cases hm with
  | stay | target => exact {}
  | view | display | area | idleMode => rw [if_pos hs]; exact {}
  | powerUpEnd hp | powerDownEnd hp => rw [hp] at hs; cases hs
  | frameEnd => exact absurd hc (by simp)
  | later k =>
    rw [if_pos hs]
    exact { scanned := by simp only [Scanout.scanOn_scanned]; omega }
  | reset => cases hs'

theorem Panel.startRequested_sameFrame {v : Scanout} {p : Panel} (hs : p.state.scanning = true) :
    SameFrame v p v p.startRequested := by
  rcases p.state.row with hp | hp | hp | hp
  · simp [hp, PanelState.scanning] at hs
  · rw [startRequested_starting hp]
    exact {}
  · rw [startRequested_running hp]
    exact {}
  · rw [startRequested_stopping hp]
    exact {}

/-- A panel that scans on where STOP is requested is STARTING: the frame goes on. -/
theorem Panel.stopRequested_sameFrame {v : Scanout} {p : Panel} (hs : p.stopRequested.state.scanning = true) :
    SameFrame v p (v.stopRequested p.state) p.stopRequested := by
  rcases p.state.row with hp | hp | hp | hp
  · simp [stopRequested_off hp, hp, PanelState.scanning] at hs
  · rw [stopRequested_starting hp, Scanout.stopRequested_of_ne _ (starting_ne_running hp)]
    exact {}
  · rw [stopRequested_running hp] at hs
    cases hs
  · rw [stopRequested_stopping hp, Scanout.stopRequested_of_ne _ (isStopping_ne_running hp)]
    exact {}

theorem PanelStep.sameFrame {s t : State} (hx : PanelStep s t) (hf : s.scan.scanned < panelPositions)
    (hs : s.panel.state.scanning = true) (ht : t.panel.state.scanning = true)
    (hc : t.scan.frameCounter = s.scan.frameCounter) : SameFrame s.scan s.panel t.scan t.panel := by
  cases hx with
  | move hm => exact hm.sameFrame hf hs ht hc
  | start hv hp =>
    rw [hv, hp]
    exact Panel.startRequested_sameFrame hs
  | stop hv hp =>
    rw [hp] at ht
    rw [hv, hp]
    exact Panel.stopRequested_sameFrame ht

end Sys2Proof.Machine

namespace Sys2Proof.Machine

set_option Elab.async false

/-! # What every step does to the view and the panel, command by command -/

/-! ## The device power state -/

section

variable (s : State)

@[simp] theorem leaveUp_device : s.leaveUp.power.device = s.power.device := by
  unfold State.leaveUp
  split <;> rfl

@[simp] theorem restartDozeTimer_device : s.restartDozeTimer.power.device = s.power.device := by
  unfold State.restartDozeTimer
  split <;> rfl

@[simp] theorem enterAbsent_device : s.enterAbsent.power.device = s.power.device := by simp [State.enterAbsent]

@[simp] theorem goQuiet_device : s.goQuiet.power.device = s.power.device := leaveUp_device s

@[simp] theorem resume_device : s.resume.power.device = s.power.device := by simp [State.resume, State.endOutage]

@[simp] theorem goodFrame_device : s.goodFrame.power.device = s.power.device := by
  unfold State.goodFrame
  split <;> simp

@[simp] theorem bannerReached_device : s.bannerReached.power.device = s.power.device := by
  unfold State.bannerReached
  split <;> rfl

@[simp] theorem endPlay_device : s.endPlay.power.device = s.power.device := rfl

@[simp] theorem bannerRead_device (cursor : Nat) : (s.bannerRead cursor).power.device = s.power.device := by
  unfold State.bannerRead
  split
  · rfl
  · split <;> simp [State.setEngine]

end

/-! ## What leaves view, panel and device power state as they are -/

/-- View, panel and device power state stay as they are. -/
structure PanelKept (s t : State) : Prop where
  scan : t.scan = s.scan := by simp
  panel : t.panel = s.panel := by simp
  device : t.power.device = s.power.device := by simp

theorem PanelKept.dozing {s t : State} (h : PanelKept s t) : t.dozing ↔ s.dozing := by
  rw [State.dozing, State.dozing, h.device]

theorem PanelKept.trans {s t u : State} (h : PanelKept s u) (h' : PanelKept u t := by exact {}) : PanelKept s t :=
  ⟨h'.scan.trans h.scan, h'.panel.trans h.panel, h'.device.trans h.device⟩

theorem PanelStep.kept {s t : State} (h : PanelKept s t := by exact {}) : PanelStep s t :=
  .move (by rw [h.scan, h.panel]; exact .stay) h.dozing.mp

theorem PanelStep.congr {s t u : State} (hx : PanelStep s u) (h : PanelKept u t := by exact {}) : PanelStep s t := by
  cases hx with
  | move hm hd => exact .move (by rw [h.scan, h.panel]; exact hm) fun ht => hd (h.dozing.mp ht)
  | start hv hp hd => exact .start (h.scan.trans hv) (h.panel.trans hp) fun hw ht => hd hw (h.dozing.mp ht)
  | stop hv hp => exact .stop (h.scan.trans hv) (h.panel.trans hp)

theorem PanelStep.live {s t : State} {e : State → State} (hx : live s e = .next t)
    (he : PanelStep s (e s)) : PanelStep s t := live_keeps (P := PanelStep s) hx .kept fun _ => he

theorem PanelStep.onEvent {s t : State} {b : Bool} {e : State → State} (hx : onEvent s b e = .next t)
    (he : b = true → PanelStep s (e s)) : PanelStep s t := onEvent_keeps (P := PanelStep s) hx .kept fun _ hb => he hb

/-! ## Requests to the panel -/

theorem PanelStep.requestStart {s : State} (h : WorkSound s → ¬ s.dozing) : PanelStep s s.requestStart :=
  .start (by simp) (by rw [requestStart_eq]) fun hw hd => h hw (by simpa [State.dozing] using hd)

/-- The panel is started again if it was remembered on, in a part that is ACTIVE (R132). -/
theorem PanelStep.restart {s u : State} (hv : u.scan = s.scan) (hp : u.panel = s.panel)
    (hu : u.power.device = .active) : PanelStep s u.restartRemembered.restartDozeTimer := by
  have hawake : ∀ t : State, t.power.device = .active → ¬ t.dozing := fun t ht => by simp [State.dozing, ht]
  suffices h : PanelStep s u.restartRemembered from h.congr
  unfold State.restartRemembered
  split
  · exact .start (by simp [hv]) (by rw [requestStart_eq, hp]) fun _ => hawake _ (by simpa using hu)
  · exact .move (by rw [hv, hp]; exact .stay) fun hd => absurd hd (hawake _ hu)

theorem PanelStep.abortDoze {s u : State} (hv : u.scan = s.scan) (hp : u.panel = s.panel) :
    PanelStep s u.abortDoze := .restart (by simp [hv]) (by simp [hp]) rfl

theorem PanelStep.endCheck {s u : State} (hv : u.scan = s.scan) (hp : u.panel = s.panel) (anyLost : Bool) :
    PanelStep s (u.endCheck anyLost) := by
  unfold State.endCheck
  exact .restart (by split <;> simp [State.dropDozeDigests, hv])
    (by split <;> simp [State.dropDozeDigests, hp]) (by simp)

/-- STOP is requested, in whatever device power state (R129, R166). -/
theorem PanelStep.requestStop {s u : State} (hv : u.scan = s.scan) (hp : u.panel = s.panel) :
    PanelStep s u.requestStop := by
  obtain ⟨hscan, hpanel⟩ := requestStop_display u
  exact .stop (by rw [hscan, hv, hp]) (by rw [hpanel, hp])

theorem PanelStep.enterEntering {s u : State} (hv : u.scan = s.scan) (hp : u.panel = s.panel) :
    PanelStep s u.enterEntering := .requestStop hv hp

theorem PanelStep.enterDoze {s u : State} (hv : u.scan = s.scan) (hp : u.panel = s.panel) :
    PanelStep s u.enterDoze := .requestStop hv hp

/-- A wake cause in DOZE moves neither view nor panel (R169). -/
theorem PanelStep.wake {s u : State} (hx : PanelStep s u) : PanelStep s u.wake := by
  have hd : u.wake.dozing → u.dozing := by
    rw [wake_eq]
    unfold State.dozing
    dsimp only
    split
    next hd => exact fun _ => .inl hd
    · exact id
  cases hx with
  | move hm hd' => exact .move (by simpa using hm) fun ht => hd' (hd ht)
  | start hv hp hd' => exact .start (by simpa using hv) (by simpa using hp) fun hw ht => hd' hw (hd ht)
  | stop hv hp => exact .stop (by simpa using hv) (by simpa using hp)

/-! ## The taking of records -/

/-- A part in DOZE and WAKING has no record in hand (R23, R168). -/
theorem WorkSound.not_dozing {s : State} (h : WorkSound s) {f : RxFrame} {r : Record} (hr : s.record? = some (f, r)) :
    ¬ s.dozing := fun hd => record?_not_idle hr (h.away hd).1

theorem PanelStep.advance {s u : State} (hx : PanelStep s u) (r : Record) : PanelStep s (u.advance r) := hx.congr

theorem PanelStep.takeControl {s : State} {code : Byte} {check : Record → Option Reason}
    {effect : Record → State → State}
    (he : ∀ f r, s.record? = some (f, r) → check r = none → PanelStep s (effect r s)) :
    PanelStep s (takeControl code check effect s) :=
  takeControl_keeps (P := PanelStep s) .kept (fun _ _ _ _ _ => .kept) fun f r hr _ _ hc => (he f r hr hc).advance r

theorem panelCheck_action {r : Record} (h : panelCheck r = none) : (panelActionOf r).isSome = true := by
  rw [panelCheck, firstFailure_eq_none] at h
  exact h ((panelActionOf r).isSome, .range) (by simp)

/-- A band that passes its check lies on the panel (R133). -/
theorem panelCheck_band {r : Record} (h : panelCheck r = none) (ha : panelActionOf r = some .partialBand) :
    (Area.band (bandTop r) (bandBottom r)).inRange := by
  rw [panelCheck, firstFailure_eq_none] at h
  have hband := h (decide (panelActionOf r ≠ some .partialBand) ||
    (decide (bandBottom r ≤ 799) && decide (bandTop r ≤ bandBottom r)), .range) (by simp)
  simp only [ha, ne_eq, not_true, decide_false, Bool.false_or, Bool.and_eq_true, decide_eq_true_eq] at hband
  exact ⟨hband.2, hband.1⟩

/-- A view that passes its check lies in its ranges (R121). -/
theorem setViewCheck_inRange {r : Record} (h : setViewCheck r = none) : (viewOf r.body).inRange := by
  rw [setViewCheck, firstFailure_eq_none] at h
  simp only [List.forall_mem_cons, Bool.and_eq_true, decide_eq_true_eq] at h
  obtain ⟨-, ⟨⟨⟨hox, hsx⟩, hoy⟩, hsy⟩, -, hsplit, -⟩ := h
  exact ⟨hox, hoy, hsx, hsy, hsplit⟩

theorem PanelStep.takePanel {s : State} {a : PanelAction} {effect : Record → State → State}
    (he : ∀ f r, s.record? = some (f, r) → panelCheck r = none → panelActionOf r = some a → PanelStep s (effect r s)) :
    PanelStep s (takePanel a effect s) := by
  unfold Machine.takePanel
  split
  · exact .kept
  next f₀ r₀ hr₀ =>
    split
    next ha =>
      refine .takeControl fun f r hr hc => he f r hr hc ?_
      obtain rfl : r₀ = r := by
        have := (recordOf?_some.mp hr₀).1.symm.trans hr
        simp_all
      exact ha.resolve_right fun hn => by simpa [hn] using panelCheck_action hc
    · exact .kept

theorem PanelStep.takeDraw {s : State} (kind : DrawKind) : PanelStep s (takeDraw kind s) :=
  takeDraw_keeps (P := PanelStep s) .kept (fun _ _ _ => .kept) (fun _ _ _ _ => .kept) fun _ _ _ => .kept

theorem PanelStep.takeAsk {s : State} {code : Byte} {answer : Nat → RxFrame → Record → State → State}
    (ha : ∀ n f r u, PanelKept u (answer n f r u)) : PanelStep s (takeAsk code answer s) :=
  takeAsk_keeps (P := PanelStep s) .kept (fun _ _ _ => .kept)
    (fun n f r => .advance (.kept (PanelKept.trans (by exact {}) (ha n f r _))) r)
    fun _ => .kept

theorem answerWith_panelKept (check : Record → Option Reason) (body : Record → State → List Word) (n : Nat)
    (f : RxFrame) (r : Record) (s : State) : PanelKept s (answerWith check body n f r s) := {}

theorem answerOf_panelKept (s : State) (code : Byte) (n : Nat) (f : RxFrame) (r : Record) :
    PanelKept s (answerOf code n f r s) := by
  rcases answerOf_cases code with e | e | ⟨check, body, e⟩ | e <;> rw [e] <;> exact {}

/-! ## The commands -/

theorem PanelStep.setView {s t : State} (hx : execSetView s = .next t) : PanelStep s t := by
  refine .live hx (.takeControl fun _ r _ hc => .move ?_ fun hd => ?_)
  · have hm := PanelMove.view (v := s.scan) (p := s.panel) (setViewCheck_inRange hc)
    unfold setViewEffect
    split at hm <;> simp_all
  · unfold setViewEffect at hd
    split at hd <;> exact hd

theorem PanelStep.setOutage {s t : State} (hx : execSetOutage s = .next t) : PanelStep s t := by
  refine .live hx (.takeControl fun _ r _ _ => ?_)
  have hlate : ∀ {u : State}, PanelKept s u → PanelStep s (if dozeExpired u then u.enterEntering else u) := by
    intro u hu
    split
    · exact .enterEntering hu.scan hu.panel
    · exact .kept hu
  refine hlate ?_
  split
  · exact PanelKept.trans ⟨rfl, rfl, rfl⟩
  · exact ⟨rfl, rfl, rfl⟩

theorem PanelStep.admission {s u : State} (h : PanelKept s u) (f : RxFrame) : PanelStep s (u.admission f) := by
  have hjoined : PanelKept s
      (State.flowAtAdmission { u with rxq := { u.rxq with frames := u.rxq.frames ++ [f] } }) := h.trans
  unfold State.admission State.admitFrame
  split
  · exact .kept h.trans
  · dsimp only
    split
    · exact .wake (.kept hjoined)
    · exact .abortDoze hjoined.scan hjoined.panel
    all_goals exact .kept hjoined

theorem PanelStep.keepFrame {s u : State} (h : PanelKept s u) (kind flags sequence : Byte) (payload : List Byte) :
    PanelStep s (u.keepFrame kind flags sequence payload) := by
  unfold State.keepFrame
  dsimp only
  split
  · exact .admission h.trans _
  · exact .kept h.trans

theorem PanelStep.classify {s u : State} (h : PanelKept s u) (kind flags sequence : Byte) (payload : List Byte) :
    PanelStep s (u.classify kind flags sequence payload) := by
  unfold State.classify
  split
  · exact .keepFrame h _ _ _ _
  · dsimp only
    split
    · exact .keepFrame h _ _ _ _
    · split
      · exact .keepFrame h.trans _ _ _ _
      · exact .kept h.trans

theorem PanelStep.endFrame (s : State) (buffer : List Byte) : PanelStep s (s.endFrame buffer) := by
  unfold State.endFrame
  dsimp only
  split
  · exact .classify {} _ _ _ _
  · exact .kept

theorem PanelStep.dataSymbol {s t : State} {b : Byte} (hx : execDataSymbol b s = .next t) : PanelStep s t := by
  refine .onEvent hx fun _ => ?_
  split
  · exact .kept
  · dsimp only
    split
    · exact .kept
    · split
      · exact .kept
      · split
        · exact .kept
        · exact .endFrame s _

theorem PanelStep.checkMade {s u : State} (h : PanelKept s u) (lost : List Nat) : PanelStep s (u.checkMade lost) := by
  unfold State.checkMade
  split
  · exact .endCheck h.scan h.panel false
  · exact .kept h.trans

theorem PanelStep.retentionCheckPaneDone {s t : State} (hx : execRetentionCheckPaneDone s = .next t) :
    PanelStep s t := by
  refine .onEvent hx fun _ => ?_
  split
  next n lost _ =>
    have hmarked : ∀ b d, PanelKept s (if b = true then s.setDigestState n d else s) := by
      intro b d
      split <;> exact {}
    dsimp only
    split
    · exact .kept ((hmarked _ _).trans ⟨rfl, rfl, rfl⟩)
    · exact .checkMade (hmarked _ _) _
  all_goals exact .kept

theorem bannerRead_panelKept (s : State) (cursor : Nat) : PanelKept s (s.bannerRead cursor) := {}

theorem endPlay_panelKept (s : State) : PanelKept s s.endPlay := {}

theorem PanelStep.bannerRecordDone {s t : State} (hx : execBannerRecordDone s = .next t) : PanelStep s t := by
  refine .onEvent hx fun _ => ?_
  split
  · have hdone : PanelKept s (match s.engine.job with
        | some job => s.finishJob job
        | none => s) := by split <;> exact {}
    dsimp only
    split
    · exact .kept (hdone.trans (bannerRead_panelKept _ _))
    · exact .kept (hdone.trans (endPlay_panelKept _))
  · exact .kept

theorem PanelStep.processMake {s u : State} (hx : PanelStep s u) (p : Nat) : PanelStep s (u.processMake p) := by
  unfold State.processMake
  refine PanelStep.wake ?_
  split
  · exact hx
  · split
    · exact hx.congr
    · exact hx.congr

theorem PanelStep.keyScan {s t : State} {raw : BitVec 128} (hx : execKeyScan raw s = .next t) : PanelStep s t := by
  refine .onEvent hx fun _ => ?_
  dsimp only
  split
  · exact .kept
  · exact List.foldlRecOn (motive := PanelStep s) _ _
      (List.foldlRecOn (motive := PanelStep s) _ _ .kept fun _ hu _ _ => hu.congr)
      fun _ hu p _ => .processMake hu p

theorem PanelStep.frameEnd {s t : State} (hx : execFrameEnd s = .next t) : PanelStep s t := by
  refine .onEvent hx fun hs => ?_
  obtain ⟨hv, hp⟩ := endPanelFrame_display s
  exact .move (t := s.endPanelFrame) (by rw [hv, hp]; exact .frameEnd hs) (by simp [State.dozing, State.endPanelFrame])

theorem PanelStep.powerDownEnd {s t : State} (hx : execPowerDownEnd s = .next t) : PanelStep s t := by
  refine .onEvent hx fun hdue => ?_
  obtain ⟨n, hp, -⟩ := (powerDownDue_iff s).mp hdue
  rw [reachOff_eq]
  exact .move (.powerDownEnd hp) id

theorem PanelStep.powerUpEnd {s t : State} (hx : execPowerUpEnd s = .next t) : PanelStep s t := by
  refine .onEvent hx fun hdue => ?_
  obtain ⟨n, hp, -⟩ := (powerUpDue_iff s).mp hdue
  exact .move (.powerUpEnd hp) id

/-- The modes (R134). -/
theorem PanelStep.setDisplay (s : State) (m : Display) : PanelStep s (s.setDisplay m) := by
  have hp : (s.setDisplay m).panel = if s.panel.state.scanning then { s.panel with pendingDisplay := some m }
      else { s.panel with display := m } := by
    unfold State.setDisplay
    split <;> rfl
  exact .move (by rw [hp]; simpa using .display m) (by simp [State.dozing])

theorem PanelStep.setArea (s : State) {m : Area} (hm : m.inRange) : PanelStep s (s.setArea m) := by
  have hp : (s.setArea m).panel = if s.panel.state.scanning then { s.panel with pendingArea := some m }
      else { s.panel with area := m } := by
    unfold State.setArea
    split <;> rfl
  exact .move (by rw [hp]; simpa using .area hm) (by simp [State.dozing])

theorem PanelStep.setIdle (s : State) (m : Bool) : PanelStep s (s.setIdle m) := by
  have hp : (s.setIdle m).panel = if s.panel.state.scanning then { s.panel with pendingIdle := some m }
      else { s.panel with idleMode := m } := by
    unfold State.setIdle
    split <;> rfl
  exact .move (by rw [hp]; simpa using .idleMode m) (by simp [State.dozing])

theorem exec_panelStep {c : Instr} {s t : State} (hx : exec c s = .next t) : PanelStep s t := by
  cases c with
  | resetAssert =>
    injection hx with hx
    subst hx
    exact .move .reset fun hd => by simp [State.dozing, State.reset, Power.atReset] at hd
  | resetRelease | presenceContactChange =>
    injection hx with hx
    subst hx
    split <;> exact .kept
  | clearPassEnd | presenceOpen | startSymbol | silenceTimeout | bannerDelayExpiry | flowSymbolSend
  | keysFrameStart | noticeFrameStart =>
    rw [exec] at hx
    exact .onEvent hx fun _ => .kept
  | presenceClosed =>
    rw [exec] at hx
    exact .onEvent hx fun _ => .wake .kept
  | laneLockGained | upstreamFrameEnd =>
    rw [exec] at hx
    exact .live hx .kept
  | laneLockLost | bannerGrant =>
    rw [exec] at hx
    refine .onEvent hx fun _ => ?_
    dsimp only
    split <;> exact .kept
  | frameTake | brokenRecord | drawComplete =>
    rw [exec] at hx
    refine .onEvent hx fun _ => ?_
    split <;> exact .kept
  | replyFrameStart =>
    rw [exec] at hx
    refine .onEvent hx fun _ => ?_
    (repeat' split) <;> exact .kept
  | dataSymbol b => exact .dataSymbol hx
  | slotGranted =>
    rw [exec] at hx
    refine .live hx ?_
    split
    · split
      · exact .advance (.kept (PanelKept.trans (by exact {}) (answerOf_panelKept _ _ _ _ _))) _
      · exact .kept
    all_goals exact .kept
  | unknownRecord =>
    rw [exec] at hx
    refine .live hx ?_
    (repeat' split) <;> exact .kept
  | digestRunEnd | recomputeStep =>
    rw [exec] at hx
    refine .live hx ?_
    split <;> exact .kept
  | fill | clear | glyph | planes | move | keymove =>
    rw [exec] at hx
    exact .live hx (.takeDraw _)
  | loadPen | loadPalette | loadShade | loadKeymap | loadBanner | setBanner | lamps | setKeys | setNotice
  | clearCounts =>
    rw [exec] at hx
    exact .live hx (.takeControl fun _ _ _ _ => .kept ⟨rfl, rfl, rfl⟩)
  | loadPane =>
    rw [exec] at hx
    exact .live hx (.takeControl fun _ _ _ _ => .kept ⟨by simp [loadPaneEffect], by simp, by simp [loadPaneEffect]⟩)
  | reset =>
    rw [exec] at hx
    exact .live hx (.takeControl fun _ _ _ _ => .kept)
  | backlight =>
    rw [exec] at hx
    refine .live hx (.takeControl fun _ r _ _ => .move (.target ?_) id)
    exact Nat.le_of_lt_succ (byteOf (wordAt r.body 0) 0).isLt
  | setView => exact .setView hx
  | setLink =>
    rw [exec] at hx
    refine .live hx (.takeControl fun _ _ _ _ => ?_)
    dsimp only
    split <;> exact .kept
  | setOutage => exact .setOutage hx
  | doze =>
    rw [exec] at hx
    refine .live hx (.takeControl fun _ _ _ _ => ?_)
    split
    · exact .enterEntering rfl rfl
    · exact .kept
  | panelStart =>
    rw [exec] at hx
    exact .live hx (.takePanel fun _ _ hr _ _ => .requestStart fun hw => hw.not_dozing hr)
  | panelStop =>
    rw [exec] at hx
    exact .live hx (.takePanel fun _ _ _ _ _ => .requestStop rfl rfl)
  | panelFull =>
    rw [exec] at hx
    exact .live hx (.takePanel fun _ _ _ _ _ => .setArea s True.intro)
  | panelPartial =>
    rw [exec] at hx
    exact .live hx (.takePanel fun _ _ _ hc ha => .setArea s (panelCheck_band hc ha))
  | panelIdleOn | panelIdleOff =>
    rw [exec] at hx
    exact .live hx (.takePanel fun _ _ _ _ _ => .setIdle s _)
  | panelShow | panelBlank =>
    rw [exec] at hx
    exact .live hx (.takePanel fun _ _ _ _ _ => .setDisplay s _)
  | askCell | askTable | askId =>
    rw [exec] at hx
    exact .live hx (.takeAsk fun _ _ _ _ => answerWith_panelKept _ _ _ _ _ _)
  | askStatus | askDigest =>
    rw [exec] at hx
    exact .live hx (.takeAsk fun _ _ _ _ => {})
  | retentionPassStart =>
    rw [exec] at hx
    refine .onEvent hx fun _ => ?_
    split
    · exact .kept
    · exact .enterDoze rfl rfl
  | retentionPassPaneDone =>
    rw [exec] at hx
    refine .live hx ?_
    split
    · dsimp only
      split
      · exact .kept
      · exact .enterDoze rfl rfl
    all_goals exact .kept
  | oscillatorWaitEnd =>
    rw [exec] at hx
    refine .onEvent hx fun _ => ?_
    dsimp only
    split
    · exact .kept
    · exact .endCheck (by simp) (by simp) false
  | retentionCheckPaneDone => exact .retentionCheckPaneDone hx
  | retentionClearPaneDone =>
    rw [exec] at hx
    refine .onEvent hx fun _ => ?_
    split
    · dsimp only
      split
      · exact .endCheck (by simp) (by simp) true
      · exact .kept
    · exact .kept
  | dozeTimerExpiry =>
    rw [exec] at hx
    exact .onEvent hx fun _ => .enterEntering rfl rfl
  | bannerRecordDone => exact .bannerRecordDone hx
  | powerUpEnd => exact .powerUpEnd hx
  | powerDownEnd => exact .powerDownEnd hx
  | frameEnd => exact .frameEnd hx
  | keyScan raw => exact .keyScan hx
  | dozePixelLoss x y v =>
    rw [exec, execDozePixelLoss] at hx
    split at hx
    · exact .onEvent hx fun _ => .kept
    · cases hx

/-! ## The part's running on -/

theorem scanRuns_scan (s : State) :
    s.scanRuns.scan = if s.panel.state.scanning then s.scan.scanOn (Config.scanProgress s.turn) else s.scan := by
  unfold State.scanRuns
  split <;> rfl

theorem tick_panelStep (s : State) : PanelStep s s.tick := by
  have hv : s.tick.scan = if s.panel.state.scanning then s.scan.scanOn (Config.scanProgress s.engineRuns.turn)
      else s.scan := by simp [State.tick, scanRuns_scan]
  have hp : s.tick.panel = { s.panel with state := s.panel.state.later } := by simp [State.tick, State.timersRun]
  refine .move (by rw [hv, hp]; exact .later _) ?_
  simp [State.dozing, State.tick, State.timersRun, Power.later]

theorem step_panelStep {s t : State} (hx : step s = .next t) : ∃ rest, PanelStep { s with pending := rest } t := by
  unfold step at hx
  split at hx
  · injection hx with hx
    subst hx
    refine ⟨s.pending, ?_⟩
    unfold State.idle
    split
    · exact .kept
    · split
      · exact tick_panelStep s
      · exact .kept
  · exact ⟨_, exec_panelStep hx⟩

/-- Settles O57: what a step can do to view and panel keeps each of the three. -/
theorem stepsKeepPanelSound : Obligations.StepsKeepPanelSound := by
  refine ⟨fun s t h hx => ?_, fun s t hw h hx => ?_, fun s t h hx hs ht hc => ?_⟩ <;>
    obtain ⟨rest, hstep⟩ := step_panelStep hx
  · exact hstep.sound (h.congr rfl rfl)
  · exact hstep.dozingPanel hw.congr h
  · obtain ⟨hscanned, hactive, hdisplay, harea, hidle, hactual⟩ := hstep.sameFrame h.frame hs ht hc
    exact ⟨hscanned, hactive, hdisplay, harea, hidle, hactual⟩

end Sys2Proof.Machine

namespace Sys2Proof.Machine

set_option Elab.async false

open Sys2Proof.Statements

/-! # SET_VIEW and the PANEL records (R121, R127, R129 to R131, R133, R134) -/

/-! ## SET_VIEW -/

theorem exec_setView {s : State} {f : RxFrame} {r : Record} (h : Accepted s f r 0x27) :
    exec .setView s = .next ((setViewEffect r s).advance r) :=
  takeControl_of_accepted h setViewEffect (setViewCheck_eq (kind_of_accepted h))

/-- The view of a SET_VIEW body, by its fields (spec/12_formats.md). -/
theorem viewOf_fields (r : Record) :
    viewOf r.body =
      { ox := halfAt r 0 0, oy := halfAt r 0 1, split := halfAt r 1 0, sx := halfAt r 2 0, sy := halfAt r 2 1
        planeEnable := byteOf (wordAt r.body 3) 3, swap := decide (byteAt r 3 0 = 1)
        mirrorX := decide (byteAt r 3 1 = 1), mirrorY := decide (byteAt r 3 2 = 1) } := by
  have hbit : ∀ b, (byteOf (wordAt r.body 3) b == 1#8) = decide (byteAt r 3 b = 1) := fun b => by
    rw [beq_eq_decide]
    exact decide_eq_decide.mpr byteOf_eq_one_iff
  simp only [viewOf, ← hbit]
  rfl

/-! ## The PANEL actions -/

/-- The action of an accepted PANEL record (R133). -/
theorem panelAction_of_accepted {s : State} {f : RxFrame} {r : Record} (h : Accepted s f r 0x28) :
    panelActionOf r = PanelAction.ofCode (byteOf (wordAt r.body 0) 0) := by
  obtain ⟨-, -, hk, hl, -⟩ := h
  simp only [lengthMatches, hk, BitVec.reduceToNat, decide_eq_true_eq] at hl
  exact panelActionOf_of_body fun hnil => by simp [hnil] at hl

/-- The code of an action (spec/12_formats.md). -/
def PanelAction.code : PanelAction → Nat
  | .start => 0
  | .stop => 1
  | .full => 2
  | .partialBand => 3
  | .idleOn => 4
  | .idleOff => 5
  | .show => 6
  | .blank => 7

theorem PanelAction.ofCode_code {b : Byte} {a : PanelAction} (h : b.toNat = a.code) : ofCode b = some a := by
  unfold ofCode
  rw [h]
  cases a <;> rfl

/-- The step of its action deals with an accepted PANEL record. -/
theorem takePanel_of_accepted {s : State} {f : RxFrame} {r : Record} (h : Accepted s f r 0x28) {a : PanelAction}
    (ha : byteAt r 0 0 = a.code) (effect : Record → State → State) :
    live s (takePanel a effect) = .next ((effect r s).advance r) := by
  have hk := kind_of_accepted h
  have hr : s.recordOf? 0x28 = some (f, r) := hk ▸ recordOf?_of_atRecord h.1
  have haction : panelActionOf r = some a := (panelAction_of_accepted h).trans (PanelAction.ofCode_code ha)
  have htake : takePanel a effect s = takeControl 0x28 panelCheck effect s := by
    simp only [takePanel, hr, if_pos (Or.inl haction)]
  rw [← takeControl_of_accepted h effect (panelCheck_eq hk), live, live, htake]

/-- The mode actions (R134). -/
theorem exec_panelMode {s : State} {f : RxFrame} {r : Record} (h : Accepted s f r 0x28) :
    (byteAt r 0 0 = 2 → exec .panelFull s = .next ((s.setArea .full).advance r)) ∧
    (byteAt r 0 0 = 3 →
      exec .panelPartial s = .next ((s.setArea (.band (halfAt r 1 0) (halfAt r 1 1))).advance r)) ∧
    (byteAt r 0 0 = 4 → exec .panelIdleOn s = .next ((s.setIdle true).advance r)) ∧
    (byteAt r 0 0 = 5 → exec .panelIdleOff s = .next ((s.setIdle false).advance r)) ∧
    (byteAt r 0 0 = 6 → exec .panelShow s = .next ((s.setDisplay .show).advance r)) ∧
    (byteAt r 0 0 = 7 → exec .panelBlank s = .next ((s.setDisplay .blank).advance r)) :=
  ⟨fun hc => takePanel_of_accepted (a := .full) h hc _, fun hc => takePanel_of_accepted (a := .partialBand) h hc _,
    fun hc => takePanel_of_accepted (a := .idleOn) h hc _, fun hc => takePanel_of_accepted (a := .idleOff) h hc _,
    fun hc => takePanel_of_accepted (a := .show) h hc _, fun hc => takePanel_of_accepted (a := .blank) h hc _⟩

/-- Settles O19. -/
theorem viewAndModesPendOrApply : Obligations.ViewAndModesPendOrApply := by
  refine ⟨fun s f r h => ⟨_, rfl, fun hs => ?_, fun hs => ?_⟩, fun s f r h => ⟨fun hs => ?_, fun hs => ?_⟩⟩
  · rw [exec_setView h, setViewEffect, if_pos hs, viewOf_fields]
  · rw [exec_setView h, setViewEffect, if_neg (by simp [hs]), viewOf_fields]
  · have hmode := exec_panelMode h
    simp only [State.setArea, State.setIdle, State.setDisplay, hs, if_true] at hmode
    exact hmode
  · have hmode := exec_panelMode h
    simp only [State.setArea, State.setIdle, State.setDisplay, hs, Bool.false_eq_true, if_false] at hmode
    exact hmode

/-! ## START and STOP -/

theorem exec_panelStart {s : State} {f : RxFrame} {r : Record} (h : Accepted s f r 0x28) (hc : byteAt r 0 0 = 0) :
    exec .panelStart s = .next (State.advance { s with panel := s.panel.startRequested } r) := by
  rw [← requestStart_eq]
  exact takePanel_of_accepted (a := .start) h hc _

theorem exec_panelStop {s : State} {f : RxFrame} {r : Record} (h : Accepted s f r 0x28) (hc : byteAt r 0 0 = 1) :
    exec .panelStop s = .next (s.requestStop.advance r) :=
  takePanel_of_accepted (a := .stop) h hc _

/-- With a record in hand there is no SYNC wait to release (R24). -/
theorem releaseSync_of_cursor {s : State} {c : Nat} (h : s.dec.state = .walking c) : s.releaseSync = s := by
  rw [releaseSync_eq, if_neg (by simp [h])]

/-- Settles O20. -/
theorem panelRequestsAndPhases : Obligations.PanelRequestsAndPhases := by
  refine ⟨⟨fun s f r h hc => ?_, fun s f r h hc => ?_⟩, fun s t hr hp ht => ?_, fun s t hr hp ht => ?_⟩
  · rw [exec_panelStart h hc]
    refine ⟨fun hp => ?_, fun hp => ?_, fun hp => ?_, fun hp => ?_⟩
    · rw [Panel.startRequested_off hp]
    · rw [Panel.startRequested_starting hp]
    · rw [Panel.startRequested_running hp]
    · rw [Panel.startRequested_stopping hp]
  · rw [exec_panelStop h hc]
    refine ⟨fun hp => ?_, fun hp => ?_, fun hp => ?_, fun hp => ?_⟩
    · rw [requestStop_elsewhere s (by simp [hp]), Panel.stopRequested_off hp]
    · rw [requestStop_elsewhere s (starting_ne_running hp), Panel.stopRequested_starting hp]
    · obtain ⟨⟨-, c, rest, hd, -⟩, -⟩ := h
      rw [requestStop_running s hp, stopPanel_eq, releaseSync_of_cursor (by exact hd)]
      rfl
    · rw [requestStop_elsewhere s (isStopping_ne_running hp), Panel.stopRequested_stopping hp]
  · rw [exec, execPowerUpEnd, onEvent_occurs hr ((powerUpDue_iff s).mpr ⟨t, hp, ht⟩)]
  · rw [exec, execPowerDownEnd, onEvent_occurs hr ((powerDownDue_iff s).mpr ⟨t, hp, ht⟩), reachOff_eq]
    rfl

end Sys2Proof.Machine

namespace Sys2Proof.Machine

set_option Elab.async false

open Sys2Proof.Statements

/-! # The doze entry and SET_OUTAGE (R157, R160, R164 to R166) -/

theorem exec_dozeTimerExpiry {s : State} (hr : s.resetLine = false) (hd : dozeExpired s = true) :
    exec .dozeTimerExpiry s = .next s.enterEntering := onEvent_occurs hr hd

theorem exec_doze {s : State} {f : RxFrame} {r : Record} (h : Accepted s f r 0x2F) :
    exec .doze s = .next ((if s.power.device = .active then s.enterEntering else s).advance r) :=
  takeControl_of_accepted h (fun _ s => if s.power.device = .active then s.enterEntering else s)
    (lengthCheck_eq (by simp [kind_of_accepted h]))

/-- The power block as the doze entry leaves it: ENTERING, with the panel's state remembered (R166). -/
def State.enteringPower (s : State) : Power :=
  { s.power with
    device := .entering
    remembered := s.panel.state.starting || decide (s.panel.state = .running) }

theorem enterEntering_eq (s : State) : s.enterEntering = State.requestStop { s with power := s.enteringPower } := rfl

theorem bannerDelayOf_eq {n ms : Nat} (h : [250, 500, 1000, 2000][n]? = some ms) : bannerDelayOf n = ms := by
  match n, h with
  | 0, h | 1, h | 2, h | 3, h => simpa [bannerDelayOf] using h

theorem dozeDelayOf_eq {n ms : Nat} (h : [10000, 30000, 60000, 300000][n]? = some ms) : dozeDelayOf n = ms := by
  match n, h with
  | 0, h | 1, h | 2, h | 3, h => simpa [dozeDelayOf] using h

theorem or_guarded {p q : Bool} (l : Bool) {e : Prop} [Decidable e] (h : ¬ (p = false ∧ q = false ∧ e)) :
    (p || (decide e && !q && l)) = p := by
  cases p <;> cases q <;> simp_all

/-- Where the banner delay is reached, the play is due, or with no banner marked played (R160). -/
theorem bannerReached_if (s : State) :
    (if bannerDelayReached s then s.bannerReached else s) =
      { s with power := { s.power with
        bannerPlayed := s.power.bannerPlayed ||
          (decide (∃ t, s.power.outage = some t ∧ s.power.bannerDelay ≤ t) && !s.power.bannerDue &&
            decide (s.power.bannerLength = 0))
        bannerDue := s.power.bannerDue ||
          (decide (∃ t, s.power.outage = some t ∧ s.power.bannerDelay ≤ t) && !s.power.bannerPlayed &&
            decide (s.power.bannerLength ≠ 0)) } } := by
  by_cases hreached : bannerDelayReached s = true
  · obtain ⟨hplayed, hdue, ht⟩ := (bannerDelayReached_iff s).mp hreached
    rw [if_pos hreached, State.bannerReached]
    split
    next hl => simp [hplayed, hdue, ht, hl]
    next hl => simp [hplayed, hdue, ht, hl]
  · rw [if_neg hreached]
    rw [bannerDelayReached_iff] at hreached
    rw [or_guarded _ hreached, or_guarded _ fun ⟨hdue, hplayed, ht⟩ => hreached ⟨hplayed, hdue, ht⟩]

/-- Both delays at the values of a SET_OUTAGE (R157). -/
def State.withDelays (s : State) (banner doze : Nat) : State :=
  { s with power := { s.power with bannerDelay := banner, dozeDelay := doze } }

/-- An accepted SET_OUTAGE (R157). -/
theorem exec_setOutage {s u : State} {f : RxFrame} {r : Record} {banner doze : Nat} (h : Accepted s f r 0x2D)
    (hbanner : [250, 500, 1000, 2000][byteAt r 0 0]? = some banner)
    (hdoze : [10000, 30000, 60000, 300000][byteAt r 0 1]? = some doze)
    (hu : (if bannerDelayReached (s.withDelays banner doze) then (s.withDelays banner doze).bannerReached
      else s.withDelays banner doze) = u) :
    exec .setOutage s = .next ((if dozeExpired u then u.enterEntering else u).advance r) := by
  have hb : bannerDelayOf (headByte r 0) = banner := bannerDelayOf_eq hbanner
  have hd : dozeDelayOf (headByte r 1) = doze := dozeDelayOf_eq hdoze
  rw [exec, execSetOutage, takeControl_of_accepted h _ (setOutageCheck_eq (kind_of_accepted h)), ← hu, hb, hd]
  rfl

/-- Settles O37. -/
theorem dozeEntryAndSetOutage : Obligations.DozeEntryAndSetOutage := by
  refine ⟨⟨fun s hr ha hl ht => exec_dozeTimerExpiry hr ((dozeExpired_iff s).mpr ⟨ha, hl, ht⟩), fun s f r h =>
    ⟨fun ha => ?_, fun ha => ?_⟩, ?_⟩, fun s f r banner doze h hbanner hdoze => ⟨_, rfl, fun hd => ?_, fun hd => ?_⟩⟩
  · rw [exec_doze h, if_pos ha]
  · rw [exec_doze h, if_neg ha]
  · rintro s _ rfl
    rw [enterEntering_eq]
    refine ⟨fun hp => ?_, fun hp => ?_, fun hp => ?_, fun hp => ?_⟩
    · rw [requestStop_elsewhere _ (by simp [hp]), Panel.stopRequested_off (by exact hp)]
      rfl
    · rw [requestStop_elsewhere _ (starting_ne_running (by exact hp)), Panel.stopRequested_starting (by exact hp)]
      rfl
    · rw [requestStop_elsewhere _ (isStopping_ne_running (by exact hp)), Panel.stopRequested_stopping (by exact hp)]
      rfl
    · rw [requestStop_running _ (by exact hp), stopPanel_eq]
      exact ⟨_, _, rfl, rfl, rfl, rfl, rfl, rfl, rfl, rfl, rfl, rfl, rfl, rfl⟩
  · rw [exec_setOutage h hbanner hdoze (bannerReached_if _), if_pos ((dozeExpired_iff _).mpr hd)]
    rfl
  · rw [exec_setOutage h hbanner hdoze (bannerReached_if _), if_neg fun he => hd ((dozeExpired_iff _).mp he)]
    rfl

end Sys2Proof.Machine

namespace Sys2Proof.Machine

set_option Elab.async false

/-! # Where a position of the panel comes from (R123, R124) -/

/-- Settles O49. -/
theorem originAndSplit : Obligations.OriginAndSplit := by
  intro v lx ly
  refine ⟨fun h => if_pos h, fun h => ?_, ?_⟩
  · rw [storePixelOf, if_neg (by omega), Nat.add_sub_assoc h]
  · unfold storePixelOf
    split <;> exact ⟨Nat.mod_lt _ (by decide), Nat.mod_lt _ (by decide)⟩

/-- A mirror on positions 0 to `n`. -/
def mirrored (on : Bool) (n p : Nat) : Nat := if on then n - p else p

theorem mirrored_le {on : Bool} {n p : Nat} (h : p ≤ n) : mirrored on n p ≤ n := by
  unfold mirrored
  split <;> omega

/-- A mirror taken twice leaves every position where it was. -/
theorem mirrored_mirrored {on : Bool} {n p : Nat} (h : p ≤ n) : mirrored on n (mirrored on n p) = p := by
  unfold mirrored
  split <;> omega

theorem logicalOf_eq (v : View) (px py : Nat) :
    logicalOf v px py =
      if v.swap then (mirrored v.mirrorY 799 py, mirrored v.mirrorX 1279 px)
      else (mirrored v.mirrorX 1279 px, mirrored v.mirrorY 799 py) := rfl

/-- The physical position that shows a logical one: the swap, and then the mirrors. -/
def physicalOf (v : View) (lx ly : Nat) : Nat × Nat :=
  if v.swap then (mirrored v.mirrorX 1279 ly, mirrored v.mirrorY 799 lx)
  else (mirrored v.mirrorX 1279 lx, mirrored v.mirrorY 799 ly)

theorem logicalOf_physicalOf (v : View) {lx ly : Nat} (hx : lx < if v.swap then 800 else 1280)
    (hy : ly < if v.swap then 1280 else 800) :
    (physicalOf v lx ly).1 < 1280 ∧ (physicalOf v lx ly).2 < 800 ∧
      logicalOf v (physicalOf v lx ly).1 (physicalOf v lx ly).2 = (lx, ly) := by
  cases hs : v.swap with
  | true =>
    rw [hs, if_pos rfl] at hx hy
    have hx' : lx ≤ 799 := by omega
    have hy' : ly ≤ 1279 := by omega
    simp only [logicalOf_eq, physicalOf, hs, if_true, mirrored_mirrored hx', mirrored_mirrored hy', and_true]
    exact ⟨Nat.lt_succ_of_le (mirrored_le hy'), Nat.lt_succ_of_le (mirrored_le hx')⟩
  | false =>
    rw [hs, if_neg (by decide)] at hx hy
    have hx' : lx ≤ 1279 := by omega
    have hy' : ly ≤ 799 := by omega
    simp only [logicalOf_eq, physicalOf, hs, Bool.false_eq_true, if_false, mirrored_mirrored hx', mirrored_mirrored hy',
      and_true]
    exact ⟨Nat.lt_succ_of_le (mirrored_le hx'), Nat.lt_succ_of_le (mirrored_le hy')⟩

theorem physicalOf_logicalOf (v : View) {px py : Nat} (hx : px < 1280) (hy : py < 800) :
    physicalOf v (logicalOf v px py).1 (logicalOf v px py).2 = (px, py) := by
  have hx' : px ≤ 1279 := by omega
  have hy' : py ≤ 799 := by omega
  cases hs : v.swap <;> simp [logicalOf_eq, physicalOf, hs, mirrored_mirrored hx', mirrored_mirrored hy']

/-- Settles O50: `physicalOf` is the inverse of `logicalOf`, since each mirror is its own inverse. -/
theorem orientationIsOneToOne : Obligations.OrientationIsOneToOne := by
  intro v
  refine ⟨fun px py _ _ px' py' hx hy => by rw [hx, hy]; rfl, fun lx ly hx hy =>
    ⟨physicalOf v lx ly, logicalOf_physicalOf v hx hy, ?_⟩⟩
  rintro ⟨px, py⟩ ⟨hpx, hpy, hshown⟩
  have hinverse := physicalOf_logicalOf v hpx hpy
  rw [hshown] at hinverse
  exact hinverse.symm

end Sys2Proof.Machine

namespace Sys2Proof.Machine

set_option Elab.async false

open Sys2Proof.Statements

/-! # Key scans (R137 to R139, R141) -/

/-! ## The ghost filter (R138) -/

/-- The four crossings of two drive lines and two sense lines read pressed. -/
def cornersPressed (raw : BitVec 128) (d1 d2 n1 n2 : Nat) : Prop :=
  raw.getLsbD (d1 * 16 + n1) = true ∧ raw.getLsbD (d1 * 16 + n2) = true ∧
    raw.getLsbD (d2 * 16 + n1) = true ∧ raw.getLsbD (d2 * 16 + n2) = true

theorem cornersPressed.swap_drives {raw : BitVec 128} {d1 d2 n1 n2 : Nat} (h : cornersPressed raw d1 d2 n1 n2) :
    cornersPressed raw d2 d1 n1 n2 :=
  let ⟨h11, h12, h21, h22⟩ := h
  ⟨h21, h22, h11, h12⟩

theorem cornersPressed.swap_senses {raw : BitVec 128} {d1 d2 n1 n2 : Nat} (h : cornersPressed raw d1 d2 n1 n2) :
    cornersPressed raw d1 d2 n2 n1 :=
  let ⟨h11, h12, h21, h22⟩ := h
  ⟨h12, h11, h22, h21⟩

/-- The scanner looks at each rectangle once, the higher lines first. -/
theorem ghosted_iff_ordered (raw : BitVec 128) :
    ghosted raw = true ↔ ∃ d1 < 8, ∃ d2 < d1, ∃ n1 < 16, ∃ n2 < n1, cornersPressed raw d1 d2 n1 n2 := by
  simp only [ghosted, rawPressed, cornersPressed, List.any_eq_true, List.mem_range, Bool.and_eq_true, and_assoc]

/-- A rectangle found in any order of its lines is one that the scanner finds. -/
theorem ghosted_of_corners {raw : BitVec 128} {d1 d2 n1 n2 : Nat} (hd1 : d1 < 8) (hd2 : d2 < 8) (hn1 : n1 < 16)
    (hn2 : n2 < 16) (hd : d1 ≠ d2) (hn : n1 ≠ n2) (h : cornersPressed raw d1 d2 n1 n2) : ghosted raw = true := by
  wlog hd' : d2 < d1 generalizing d1 d2
  · exact this hd2 hd1 hd.symm h.swap_drives (by omega)
  wlog hn' : n2 < n1 generalizing n1 n2
  · exact this hn2 hn1 hn.symm h.swap_senses (by omega)
  exact (ghosted_iff_ordered raw).mpr ⟨d1, hd1, d2, hd', n1, hn1, n2, hn', h⟩

/-- A ghosted scan has a rectangle of two different drive lines and two different sense lines. -/
theorem corners_of_ghosted {raw : BitVec 128} (h : ghosted raw = true) :
    ∃ d1 d2 n1 n2, d1 < 8 ∧ d2 < 8 ∧ n1 < 16 ∧ n2 < 16 ∧ d1 ≠ d2 ∧ n1 ≠ n2 ∧ cornersPressed raw d1 d2 n1 n2 := by
  obtain ⟨d1, hd1, d2, hd2, n1, hn1, n2, hn2, hc⟩ := (ghosted_iff_ordered raw).mp h
  exact ⟨d1, d2, n1, n2, hd1, by omega, hn1, by omega, by omega, by omega, hc⟩

/-! ## The debounce of one position (R139) -/

section

variable {k : KeyScanner} {raw : BitVec 128} {p : Nat}

theorem debounced_agrees (h : raw.getLsbD p = k.accepted.get p) : debounced k raw p = 0 := if_pos h

theorem debounced_differs (h : raw.getLsbD p ≠ k.accepted.get p) :
    debounced k raw p = k.counters.get p + 1 := if_neg h

/-- A change is accepted where the raw state differs from the accepted one for the N-th time. -/
theorem acceptsChange_iff :
    acceptsChange k raw p = true ↔ raw.getLsbD p ≠ k.accepted.get p ∧ k.debounce ≤ k.counters.get p + 1 := by
  rw [acceptsChange, Bool.and_eq_true, decide_eq_true_iff, decide_eq_true_iff]
  exact and_congr_right fun hne => by rw [debounced_differs hne]

theorem afterScan_accepted (hp : p < 128) :
    (k.afterScan raw).accepted.get p = if acceptsChange k raw p then raw.getLsbD p else k.accepted.get p :=
  Table.get_mapIdx _ _ hp

theorem afterScan_counters (hp : p < 128) :
    (k.afterScan raw).counters.get p = if acceptsChange k raw p then 0 else debounced k raw p :=
  Table.get_ofFn _ hp

theorem mem_acceptedBreaks :
    p ∈ acceptedBreaks k raw ↔ p < 128 ∧ acceptsChange k raw p = true ∧ raw.getLsbD p = false := by
  simp [acceptedBreaks]

theorem mem_acceptedMakes :
    p ∈ acceptedMakes k raw ↔ p < 128 ∧ acceptsChange k raw p = true ∧ raw.getLsbD p = true := by
  simp [acceptedMakes]

/-- With no change accepted a position keeps its state, and neither breaks nor makes. -/
theorem afterScan_unaccepted (hp : p < 128) (h : ¬ acceptsChange k raw p = true) :
    (k.afterScan raw).accepted.get p = k.accepted.get p ∧ (k.afterScan raw).counters.get p = debounced k raw p ∧
      p ∉ acceptedBreaks k raw ∧ p ∉ acceptedMakes k raw := by
  rw [afterScan_accepted hp, afterScan_counters hp, if_neg h, if_neg h, mem_acceptedBreaks, mem_acceptedMakes]
  exact ⟨rfl, rfl, fun ⟨_, hc, _⟩ => h hc, fun ⟨_, hc, _⟩ => h hc⟩

/-- With its change accepted a position takes the raw state, and breaks or makes by it. -/
theorem afterScan_changed (hp : p < 128) (h : acceptsChange k raw p = true) :
    (k.afterScan raw).accepted.get p = raw.getLsbD p ∧ (k.afterScan raw).counters.get p = 0 ∧
      (p ∈ acceptedMakes k raw ↔ raw.getLsbD p = true) ∧ (p ∈ acceptedBreaks k raw ↔ raw.getLsbD p = false) := by
  rw [afterScan_accepted hp, afterScan_counters hp, if_pos h, if_pos h, mem_acceptedBreaks, mem_acceptedMakes]
  exact ⟨rfl, rfl, ⟨fun ⟨_, _, hm⟩ => hm, fun hm => ⟨hp, h, hm⟩⟩, ⟨fun ⟨_, _, hb⟩ => hb, fun hb => ⟨hp, h, hb⟩⟩⟩

end

/-! ## The scan as a whole -/

theorem scanDue_iff (s : State) :
    scanDue s = true ↔ (if s.power.device = .doze then 16 else 1) ≤ s.keys.sinceScan := by
  have hperiod : scanPeriod s.power.device = if s.power.device = .doze then 16 else 1 := by
    cases s.power.device <;> rfl
  rw [scanDue, hperiod, decide_eq_true_eq]

/-- What a scan that is not ghosted leaves in the scanner before its breaks and makes are processed (R137, R139). -/
def State.debounceScan (s : State) (raw : BitVec 128) : State :=
  { s with keys := { s.keys with rawMatrix := raw, sinceScan := 0 }.afterScan raw }

theorem exec_keyScan_ghosted {s : State} {raw : BitVec 128} (hr : s.resetLine = false) (hdue : scanDue s = true)
    (hg : ghosted raw = true) :
    exec (.keyScan raw) s =
      .next (State.count { s with keys := { s.keys with rawMatrix := raw, sinceScan := 0 } } .ghost) := by
  rw [exec, execKeyScan, onEvent_occurs hr hdue, if_pos hg]

theorem exec_keyScan_debounced {s : State} {raw : BitVec 128} (hr : s.resetLine = false) (hdue : scanDue s = true)
    (hg : ¬ ghosted raw = true) :
    exec (.keyScan raw) s = .next ((acceptedMakes s.keys raw).foldl State.processMake
      ((acceptedBreaks s.keys raw).foldl State.processBreak (s.debounceScan raw))) := by
  rw [exec, execKeyScan, onEvent_occurs hr hdue, if_neg hg]
  rfl

/-- Positions are processed in ascending order (R141). -/
theorem positions_ascending (f : Nat → Bool) : ((List.range 128).filter f).Pairwise (· < ·) :=
  List.pairwise_lt_range.filter f

/-- Settles O43. -/
theorem keyScanDebounces : Obligations.KeyScanDebounces := by
  intro s raw k hr htime hk
  have hdue := (scanDue_iff s).mpr htime
  subst hk
  refine ⟨fun ⟨d1, d2, n1, n2, hd1, hd2, hn1, hn2, hd, hn, hc⟩ => ?_, fun hclear => ?_⟩
  · exact exec_keyScan_ghosted hr hdue (ghosted_of_corners hd1 hd2 hn1 hn2 hd hn hc)
  · have hg : ¬ ghosted raw = true := fun hg => by
      obtain ⟨d1, d2, n1, n2, hd1, hd2, hn1, hn2, hd, hn, hc⟩ := corners_of_ghosted hg
      exact hclear d1 d2 n1 n2 hd1 hd2 hn1 hn2 hd hn hc
    refine ⟨(s.keys.afterScan raw).accepted, (s.keys.afterScan raw).counters, acceptedBreaks s.keys raw,
      acceptedMakes s.keys raw, exec_keyScan_debounced hr hdue hg, positions_ascending _, positions_ascending _,
      fun p hp => (mem_acceptedBreaks.mp hp).1, fun p hp => (mem_acceptedMakes.mp hp).1,
      fun p hp => ⟨fun hsame => ?_, fun hne hfew => ?_, fun hne hmany => ?_⟩⟩
    · rw [← debounced_agrees hsame]
      exact afterScan_unaccepted hp fun h => (acceptsChange_iff.mp h).1 hsame
    · rw [← debounced_differs hne]
      exact afterScan_unaccepted hp fun h => by
        have := (acceptsChange_iff.mp h).2
        omega
    · exact afterScan_changed hp (acceptsChange_iff.mpr ⟨hne, hmany⟩)

end Sys2Proof.Machine

namespace Sys2Proof.Machine

set_option Elab.async false

open Sys2Proof.Statements

/-! # Key events, makes and breaks (R144 to R147, R150, R151) -/

/-! ## The key queue -/

/-- An event joins the tail of a queue with room (R150). -/
theorem queueKey_room {s : State} (h : s.keyq.events.length < 32) (e : KeyEvent) :
    s.queueKey e = { s with keyq := { s.keyq with events := s.keyq.events ++ [e] } } := if_neg (by omega)

/-- An event that reaches a queue of 32 is dropped and counted (R151). -/
theorem queueKey_full {s : State} (h : 32 ≤ s.keyq.events.length) (e : KeyEvent) :
    s.queueKey e = State.setFlag
      { withCounter s .keyOverrun (min 65535 (s.counter .keyOverrun + 1)) with
        keyq := { s.keyq with overrunPending := true, snapshotPending := true } } .keyOverrun := if_pos h

/-- The held set is no part of the key queue. -/
theorem queueKey_setHeld (s : State) (e : KeyEvent) (held : List HeldKey) :
    (s.queueKey e).setHeld held = (s.setHeld held).queueKey e := by
  unfold State.queueKey
  split <;> simp only [State.setHeld_keyq, *] <;> rfl

/-! ## Makes -/

/-- The layer in force is 1 with an FN key held, and 0 with none (R144). -/
theorem layerInForce_eq {held : List HeldKey} {layer : Nat} (hfn : (∃ h ∈ held, h.action = .fn) → layer = 1)
    (hnone : (∀ h ∈ held, h.action ≠ .fn) → layer = 0) : layerInForce held = layer := by
  unfold layerInForce
  split
  next h => exact (hfn (by simpa using h)).symm
  next h => exact (hnone (by simpa using h)).symm

/-- What the held set records of a key whose make is processed now (R144). -/
def State.madeKey (s : State) (p : Nat) : HeldKey :=
  let layer := layerInForce s.keys.held
  { position := p, code := (s.keys.entry layer p).code, layer := layer, action := (s.keys.entry layer p).action }

/-- The MAKE of a key (R149). -/
def HeldKey.makeEvent (h : HeldKey) (stamp : BitVec 32) : KeyEvent :=
  { kind := .make, code := h.code, position := h.position, layer := h.layer, stamp := stamp }

section

variable {s : State} {p : Nat}

theorem processMake_ignored (hi : (s.madeKey p).action = .ignore) : s.processMake p = s.wake := by
  unfold State.processMake
  exact congrArg State.wake (if_pos hi)

theorem processMake_overroll (hi : (s.madeKey p).action ≠ .ignore) (hfull : 10 ≤ s.keys.held.length) :
    s.processMake p = (s.count .overroll).wake := by
  unfold State.processMake
  exact congrArg State.wake ((if_neg hi).trans (if_pos hfull))

theorem processMake_joins (hi : (s.madeKey p).action ≠ .ignore) (hroom : s.keys.held.length < 10) :
    s.processMake p =
      ((s.setHeld (s.keys.held ++ [s.madeKey p])).makeAction (s.madeKey p).action
        ((s.madeKey p).makeEvent s.status.timeBase)).wake := by
  unfold State.processMake
  exact congrArg State.wake ((if_neg hi).trans (if_neg (by omega)))

/-! ## Breaks -/

theorem heldAt_eq_none {held : List HeldKey} (h : ∀ g ∈ held, g.position ≠ p) : heldAt held p = none := by
  simpa [heldAt] using h

theorem heldAt_append {before after : List HeldKey} {h : HeldKey} (hb : ∀ g ∈ before, g.position ≠ h.position) :
    heldAt (before ++ h :: after) h.position = some h := by
  have hnone : before.find? (fun g => decide (g.position = h.position)) = none := heldAt_eq_none hb
  simp [heldAt, List.find?_append, hnone]

theorem KeyAction.reports_iff (a : KeyAction) : a.reports = true ↔ a ≠ .fn ∧ a ≠ .ignore := by
  cases a <;> simp [KeyAction.reports]

theorem processBreak_unheld (h : heldAt s.keys.held p = none) : s.processBreak p = s := by
  rw [State.processBreak, h]

theorem processBreak_held {h : HeldKey} (hp : heldAt s.keys.held p = some h) :
    s.processBreak p =
      (if h.action.reports then
        s.queueKey { kind := .break, code := h.code, position := p, layer := h.layer, stamp := s.status.timeBase }
      else s).setHeld (s.keys.held.filter (fun g => decide (g.position ≠ p))) := by
  rw [State.processBreak, hp]
  dsimp only
  split
  · simp only [State.queueKey_frame]
  · rfl

end

/-- The key is the only one of its position, so it alone leaves the held set. -/
theorem filter_position_ne {before after : List HeldKey} {h : HeldKey} (hb : ∀ g ∈ before, g.position ≠ h.position)
    (ha : ∀ g ∈ after, g.position ≠ h.position) :
    (before ++ h :: after).filter (fun g => decide (g.position ≠ h.position)) = before ++ after := by
  have hkept : ∀ l : List HeldKey, (∀ g ∈ l, g.position ≠ h.position) →
      l.filter (fun g => decide (g.position ≠ h.position)) = l := fun l hl =>
    List.filter_eq_self.mpr fun g hg => decide_eq_true (hl g hg)
  rw [List.filter_append, hkept before hb, List.filter_cons_of_neg (by simp), hkept after ha]

/-- Settles O44. -/
theorem makesAndBreaks : Obligations.MakesAndBreaks := by
  refine ⟨fun s p layer e woken hfn hnone he hw => ?_, fun s p h => processBreak_unheld (heldAt_eq_none h),
    fun s before after h hheld hb ha => ?_, fun s e => ⟨fun h => queueKey_room h e, fun h => queueKey_full h e⟩⟩
  · obtain rfl : woken = State.wake := hw
    have hkey : s.madeKey p = ⟨p, e.code, layer, e.action⟩ := by
      rw [he, ← layerInForce_eq hfn hnone]
      rfl
    have haction : (s.madeKey p).action = e.action := by rw [hkey]
    refine ⟨fun hi => processMake_ignored (haction.trans hi),
      fun hi hfull => processMake_overroll (haction ▸ hi) hfull,
      fun hi hroom => ⟨_, _, rfl, rfl, fun ha => ?_, fun n ha => ?_, fun ha => ?_⟩⟩ <;>
    · rw [processMake_joins (haction ▸ hi) hroom, hkey, ha]
      rfl
  · have hfound : heldAt s.keys.held h.position = some h := by rw [hheld, heldAt_append hb]
    have hleft := filter_position_ne hb ha
    rw [← hheld] at hleft
    refine ⟨_, rfl, fun hquiet => ?_, fun hnfn hni => ?_⟩
    · have hr : ¬ h.action.reports = true := by
        rw [KeyAction.reports_iff]
        tauto
      rw [processBreak_held hfound, if_neg hr, hleft]
      rfl
    · rw [processBreak_held hfound, if_pos ((KeyAction.reports_iff _).mpr ⟨hnfn, hni⟩), hleft, queueKey_setHeld]
      rfl

end Sys2Proof.Machine

namespace Sys2Proof.Machine

set_option Elab.async false

/-! # What a key scan keeps of the key queue and the held set (R139, R144, R145, R150) -/

/-! ## The key queue stays within its limit (R150) -/

section

variable {s : State} (h : s.keyq.events.length ≤ 32)

include h

theorem queueKey_events_le (e : KeyEvent) : (s.queueKey e).keyq.events.length ≤ 32 := by
  by_cases hfull : 32 ≤ s.keyq.events.length
  · rw [queueKey_full hfull]
    exact h
  · rw [queueKey_room (by omega)]
    simp only [List.length_append, List.length_singleton]
    omega

theorem makeAction_events_le (a : KeyAction) (e : KeyEvent) : (s.makeAction a e).keyq.events.length ≤ 32 := by
  cases a with
  | key => exact queueKey_events_le h e
  | lamp n => exact queueKey_events_le (s := s.toggleLamp n) h e
  | fn | ignore => exact h

theorem processMake_events_le (p : Nat) : (s.processMake p).keyq.events.length ≤ 32 := by
  by_cases hi : (s.madeKey p).action = .ignore
  · simpa [processMake_ignored hi] using h
  · by_cases hroom : s.keys.held.length < 10
    · have hjoined : (s.setHeld (s.keys.held ++ [s.madeKey p])).keyq.events.length ≤ 32 := h
      simpa [processMake_joins hi hroom] using makeAction_events_le hjoined _ _
    · rw [processMake_overroll hi (by omega)]
      simpa using h

theorem processBreak_events_le (p : Nat) : (s.processBreak p).keyq.events.length ≤ 32 := by
  cases hp : heldAt s.keys.held p with
  | none => rwa [processBreak_unheld hp]
  | some g =>
    rw [processBreak_held hp]
    split
    · exact queueKey_events_le h _
    · exact h

end

/-! ## The held set after the breaks (R146) -/

/-- After the break of a position no key is held there. -/
theorem processBreak_keys (s : State) (p : Nat) :
    (s.processBreak p).keys =
      { s.keys with held := s.keys.held.filter (fun g => decide (g.position ≠ p)) } := by
  cases hp : heldAt s.keys.held p with
  | none =>
    have hkept : s.keys.held.filter (fun g => decide (g.position ≠ p)) = s.keys.held :=
      List.filter_eq_self.mpr fun g hg => by simpa using List.find?_eq_none.mp hp g hg
    rw [processBreak_unheld hp, hkept]
  | some g =>
    rw [processBreak_held hp]
    split <;> simp [State.setHeld]

/-- After the breaks of a scan no key is held at any of their positions. -/
theorem breaks_keys (s : State) (breaks : List Nat) :
    (breaks.foldl State.processBreak s).keys =
      { s.keys with held := s.keys.held.filter (fun g => decide (g.position ∉ breaks)) } := by
  induction breaks generalizing s with
  | nil => simp
  | cons p rest ih =>
    have hboth : ∀ g : HeldKey, (decide (g.position ∉ rest) && decide (g.position ≠ p)) =
        decide (g.position ∉ p :: rest) := fun g => by simp [Bool.and_comm]
    simp only [List.foldl_cons, ih, processBreak_keys, List.filter_filter, hboth]

theorem breaks_events_le {s : State} (h : s.keyq.events.length ≤ 32) (breaks : List Nat) :
    (breaks.foldl State.processBreak s).keyq.events.length ≤ 32 :=
  List.foldlRecOn (motive := fun u : State => u.keyq.events.length ≤ 32) _ _ h
    fun _ hu p _ => processBreak_events_le hu p

/-- A scan and its breaks: a held key that is no longer accepted as pressed has had its break accepted (R139, R146). -/
theorem KeysSound.breaks {s : State} (h : KeysSound s) (raw : BitVec 128) :
    KeysSound ((acceptedBreaks s.keys raw).foldl State.processBreak (s.debounceScan raw)) where
  events := breaks_events_le (s := s.debounceScan raw) h.events _
  held := by
    rw [breaks_keys]
    exact (List.length_filter_le _ _).trans h.held
  once := by
    rw [breaks_keys]
    exact h.once.sublist (List.filter_sublist.map _)
  pressed g hg := by
    rw [breaks_keys] at hg ⊢
    obtain ⟨hheld, hkept⟩ := List.mem_filter.mp hg
    obtain ⟨hp, hpressed, haction⟩ := h.pressed g hheld
    refine ⟨hp, ?_, haction⟩
    have hunchanged : ¬ acceptsChange s.keys raw g.position = true := fun hc => by
      have hne := (acceptsChange_iff.mp hc).1
      rw [hpressed, ne_eq, Bool.not_eq_true] at hne
      exact of_decide_eq_true hkept (mem_acceptedBreaks.mpr ⟨hp, hc, hne⟩)
    exact (afterScan_unaccepted hp hunchanged).1.trans hpressed
  debounce := by
    rw [breaks_keys]
    exact h.debounce
  counters p hp := by
    rw [breaks_keys]
    change (s.keys.afterScan raw).counters.get p ≤ 15
    by_cases hc : acceptsChange s.keys raw p = true
    · obtain ⟨-, hzero, -⟩ := afterScan_changed hp hc
      exact hzero.trans_le (Nat.zero_le _)
    · obtain ⟨-, hcount, -⟩ := afterScan_unaccepted hp hc
      rw [hcount]
      by_cases hsame : raw.getLsbD p = s.keys.accepted.get p
      · rw [debounced_agrees hsame]
        exact Nat.zero_le _
      · have hfew : ¬ s.keys.debounce ≤ s.keys.counters.get p + 1 := fun hm => hc (acceptsChange_iff.mpr ⟨hsame, hm⟩)
        have hdebounce := h.debounce.2
        rw [debounced_differs hsame]
        omega

/-! ## The held set after the makes (R145) -/

theorem makeAction_keys (s : State) (a : KeyAction) (e : KeyEvent) :
    ∃ lamps, (s.makeAction a e).keys = { s.keys with lamps := lamps } := by
  cases a with
  | key => exact ⟨s.keys.lamps, by simp [State.makeAction]⟩
  | lamp n => exact ⟨(s.toggleLamp n).keys.lamps, by simp [State.makeAction, State.toggleLamp]⟩
  | fn | ignore => exact ⟨s.keys.lamps, rfl⟩

/-- All that a make can do to the scanner: nothing, or the key joins a held set with room. -/
theorem processMake_keys (s : State) (p : Nat) :
    (s.processMake p).keys = s.keys ∨
      (s.madeKey p).action ≠ .ignore ∧ s.keys.held.length < 10 ∧
        ∃ lamps, (s.processMake p).keys =
          { s.keys with held := s.keys.held ++ [s.madeKey p], lamps := lamps } := by
  by_cases hi : (s.madeKey p).action = .ignore
  · exact .inl (by simp [processMake_ignored hi])
  · by_cases hroom : s.keys.held.length < 10
    · obtain ⟨lamps, hl⟩ := makeAction_keys (s.setHeld (s.keys.held ++ [s.madeKey p])) (s.madeKey p).action
        ((s.madeKey p).makeEvent s.status.timeBase)
      refine .inr ⟨hi, hroom, lamps, ?_⟩
      simp only [processMake_joins hi hroom, State.wake_frame, hl]
      rfl
    · exact .inl (by simp [processMake_overroll hi (Nat.le_of_not_lt hroom)])

/-- A position that is accepted as pressed and not held. -/
def State.readyToMake (s : State) (p : Nat) : Prop :=
  p < 128 ∧ s.keys.accepted.get p = true ∧ ∀ g ∈ s.keys.held, g.position ≠ p

theorem KeysSound.processMake {s : State} (h : KeysSound s) {p : Nat} (hp : s.readyToMake p) :
    KeysSound (s.processMake p) := by
  have hevents := processMake_events_le h.events p
  rcases processMake_keys s p with hk | ⟨haction, hroom, lamps, hk⟩
  · refine ⟨hevents, ?_, ?_, ?_, ?_, ?_⟩ <;> rw [hk]
    exacts [h.held, h.once, h.pressed, h.debounce, h.counters]
  · obtain ⟨hlt, hpressed, hnew⟩ := hp
    refine ⟨hevents, ?held, ?once, ?pressed, ?debounce, ?counters⟩ <;> rw [hk]
    case held =>
      rw [List.length_append, List.length_singleton]
      exact hroom
    case once =>
      refine List.map_append ▸ h.once.append (List.nodup_singleton _) (List.disjoint_singleton.mpr fun hmem => ?_)
      obtain ⟨g, hg, hsame⟩ := List.mem_map.mp hmem
      exact hnew g hg hsame
    case pressed =>
      intro g hg
      rcases List.mem_append.mp hg with hold | hself
      · exact h.pressed g hold
      · obtain rfl := List.mem_singleton.mp hself
        exact ⟨hlt, hpressed, haction⟩
    case debounce => exact h.debounce
    case counters => exact h.counters

/-- The make of one position leaves every other as ready as it was. -/
theorem State.readyToMake.processMake {s : State} {p q : Nat} (hq : s.readyToMake q) (hne : p ≠ q) :
    (s.processMake p).readyToMake q := by
  obtain ⟨hlt, hpressed, hnew⟩ := hq
  rcases processMake_keys s p with hk | ⟨-, -, lamps, hk⟩ <;> unfold State.readyToMake <;> rw [hk]
  · exact ⟨hlt, hpressed, hnew⟩
  · refine ⟨hlt, hpressed, fun g hg => ?_⟩
    rcases List.mem_append.mp hg with hold | hself
    · exact hnew g hold
    · obtain rfl := List.mem_singleton.mp hself
      exact hne

theorem KeysSound.makes {s : State} (h : KeysSound s) {makes : List Nat} (hdistinct : makes.Nodup)
    (hready : ∀ p ∈ makes, s.readyToMake p) : KeysSound (makes.foldl State.processMake s) := by
  induction makes generalizing s with
  | nil => exact h
  | cons p rest ih =>
    obtain ⟨hp, hrest⟩ := List.nodup_cons.mp hdistinct
    obtain ⟨hready, hothers⟩ := List.forall_mem_cons.mp hready
    exact ih (h.processMake hready) hrest fun q hq => (hothers q hq).processMake fun e => hp (e ▸ hq)

/-- A position whose make is accepted was not accepted as pressed before, so no key is held there. -/
theorem KeysSound.ready_after_breaks {s : State} (h : KeysSound s) {raw : BitVec 128} {p : Nat}
    (hp : p ∈ acceptedMakes s.keys raw) :
    ((acceptedBreaks s.keys raw).foldl State.processBreak (s.debounceScan raw)).readyToMake p := by
  obtain ⟨hlt, hchange, hraw⟩ := mem_acceptedMakes.mp hp
  have hwas := (acceptsChange_iff.mp hchange).1
  unfold State.readyToMake
  rw [breaks_keys]
  refine ⟨hlt, (afterScan_changed hlt hchange).1.trans hraw, fun g hg e => hwas ?_⟩
  obtain ⟨hheld, -⟩ := List.mem_filter.mp hg
  obtain ⟨-, hpressed, -⟩ := h.pressed g hheld
  rw [hraw, ← e, hpressed]

theorem KeysSound.debouncedScan {s : State} (h : KeysSound s) (raw : BitVec 128) :
    KeysSound ((acceptedMakes s.keys raw).foldl State.processMake
      ((acceptedBreaks s.keys raw).foldl State.processBreak (s.debounceScan raw))) :=
  (h.breaks raw).makes (List.nodup_range.filter _) fun _ hp => h.ready_after_breaks hp

end Sys2Proof.Machine

namespace Sys2Proof.Machine

set_option Elab.async false

/-! # What every operation keeps of the counters (R177) -/

/-! ## What counts nothing -/

section

variable (s : State)

@[simp] theorem clearSummary_counters : s.clearSummary.status.counters = s.status.counters := rfl

@[simp] theorem timersRun_counters : s.timersRun.status.counters = s.status.counters := rfl

theorem reachRunning_counters : s.reachRunning.status.counters = s.status.counters := by
  unfold State.reachRunning
  dsimp only
  split <;> simp [State.stopPanel]

@[simp] theorem panelAtFrameEnd_counters : s.panelAtFrameEnd.status.counters = s.status.counters := by
  unfold State.panelAtFrameEnd
  split
  · split
    · rfl
    · exact reachRunning_counters _
  all_goals rfl

@[simp] theorem reachOff_counters : s.reachOff.status.counters = s.status.counters := by
  unfold State.reachOff
  dsimp only
  split <;> simp

@[simp] theorem endCheck_counters (anyLost : Bool) : (s.endCheck anyLost).status.counters = s.status.counters := by
  unfold State.endCheck
  dsimp only
  split <;> simp

@[simp] theorem checkMade_counters (lost : List Nat) : (s.checkMade lost).status.counters = s.status.counters := by
  unfold State.checkMade
  split
  · exact endCheck_counters s false
  · rfl

@[simp] theorem recomputePair_counters (k : Nat) : (s.recomputePair k).status.counters = s.status.counters := by
  unfold State.recomputePair
  dsimp only
  split <;> rfl

end

/-! ## What counts -/

theorem CountersSound.congr {s t : State} (h : CountersSound s)
    (hc : t.status.counters = s.status.counters := by simp) : CountersSound t := by
  unfold CountersSound
  rw [hc]
  exact h

/-- With the 15 counters at 0, each lies in its range (R38). -/
theorem countersSound_of_zero {s : State} (hz : s.status.counters = .ofFn 15 (fun _ => 0)) : CountersSound s :=
  fun i hi => by
    rw [hz, Table.get_ofFn _ hi]
    exact Nat.zero_le _

namespace CountersSound

variable {s : State} (h : CountersSound s)

include h

/-- An advance stops at 65535 (R177). -/
theorem count (c : Counter) (k : Nat := 1) : CountersSound (s.count c k) := fun i hi => by
  rw [count_counter]
  split
  · exact min_le_left _ _
  · exact h i hi

theorem setFlag (f : Flag) : CountersSound (s.setFlag f) := h.congr

theorem wake : CountersSound s.wake := h.congr

theorem refuse (k t : Byte) (q : Option Byte) (e : Reason) : CountersSound (s.refuse k t q e) :=
  (h.count .refused).congr rfl

theorem noteOutcome (o : DrawOutcome) (k t : Byte) (q : Option Byte) : CountersSound (s.noteOutcome o k t q) := by
  unfold State.noteOutcome
  split
  · exact h.refuse _ _ _ _
  · exact h.count _
  · exact h
  · exact h.count _
  · split
    · exact h.count _
    · exact h

/-! ### Replies and the digest unit (R21, R54, R96 to R100) -/

theorem finishReply (n : Nat) (k t : Byte) (e : ReplyStatus) (b : List Word) :
    CountersSound (s.finishReply n k t e b) := by
  unfold State.finishReply
  split
  · exact h.congr
  · exact (CountersSound.congr (t := s.setSlot n .free) h).count _

theorem examineRequest : CountersSound s.examineRequest := by
  unfold State.examineRequest
  split
  · exact h
  · split
    · exact CountersSound.finishReply h.congr _ _ _ _ _
    · exact h

theorem digestGoOn : CountersSound s.digestGoOn := by
  unfold State.digestGoOn
  split
  · exact h.congr rfl
  · exact h.examineRequest

theorem abandonRun : CountersSound s.abandonRun := CountersSound.digestGoOn h.congr

theorem touchWhere (hit : Pane → Bool) : CountersSound (s.touchWhere hit) := by
  unfold State.touchWhere
  dsimp only
  split
  · exact CountersSound.abandonRun h.congr
  · exact h.congr

theorem acceptDigestRequest (q : DigestRequest) : CountersSound (s.acceptDigestRequest q) := by
  unfold State.acceptDigestRequest
  dsimp only
  split
  · exact CountersSound.digestGoOn h.congr
  · exact h.congr

theorem forgetPane (n : Nat) : CountersSound (s.forgetPane n) := by
  unfold State.forgetPane
  dsimp only
  split
  · exact CountersSound.abandonRun h.congr
  · split
    · exact CountersSound.examineRequest h.congr
    · exact h.congr

theorem answerWith (check : Record → Option Reason) (body : Record → State → List Word) (n : Nat) (f : RxFrame)
    (r : Record) : CountersSound (answerWith check body n f r s) := by
  unfold Machine.answerWith
  split
  · exact (h.refuse _ _ _ _).finishReply _ _ _ _ _
  · exact h.finishReply _ _ _ _ _

theorem answerStatus (n : Nat) (f : RxFrame) (r : Record) : CountersSound (answerStatus n f r s) := by
  have hanswered := h.answerWith askStatusCheck (fun _ => statusBody) n f r
  unfold Machine.answerStatus
  dsimp only
  split
  · exact hanswered.congr rfl
  · exact hanswered

theorem answerDigest (n : Nat) (f : RxFrame) (r : Record) : CountersSound (answerDigest n f r s) := by
  unfold Machine.answerDigest
  split
  · exact (h.refuse _ _ _ _).finishReply _ _ _ _ _
  · exact h.acceptDigestRequest _

theorem answerOf (code : Byte) (n : Nat) (f : RxFrame) (r : Record) : CountersSound (answerOf code n f r s) := by
  rcases answerOf_cases code with e | e | ⟨check, body, e⟩ | e <;> rw [e]
  · exact h.answerStatus n f r
  · exact h.answerDigest n f r
  · exact h.answerWith check body n f r
  · exact h

/-! ### The draw engine and the banner player (R26, R60, R162) -/

theorem paintPixel (job : Job) (o : Nat × Nat) : CountersSound (s.paintPixel job o) := by
  unfold State.paintPixel
  dsimp only
  split
  · exact CountersSound.touchWhere h.congr _
  · exact h.congr

theorem paint (job : Job) (offsets : List (Nat × Nat)) : CountersSound (s.paint job offsets) :=
  List.foldlRecOn (motive := CountersSound) _ _ h fun _ hu o _ => hu.paintPixel job o

theorem finishJob (job : Job) : CountersSound (s.finishJob job) := by
  have hpainted := h.paint job job.todo
  unfold State.finishJob
  dsimp only
  split
  · exact hpainted.congr
  · exact hpainted

theorem clearUpTo (hi : Nat) : CountersSound (s.clearUpTo hi) := by
  unfold State.clearUpTo
  exact CountersSound.touchWhere h.congr _

theorem engineRuns : CountersSound s.engineRuns := by
  unfold State.engineRuns
  dsimp only
  split
  · exact (h.clearUpTo _).congr rfl
  · split
    · exact h
    · exact (h.paint _ _).congr rfl

theorem bannerRead (cursor : Nat) : CountersSound (s.bannerRead cursor) := by
  unfold State.bannerRead
  split
  · exact h.congr
  · split
    · exact (h.count .malformed).congr
    next kind r _ =>
      exact (h.noteOutcome (examineDraw kind s.engine.pens s.panes r.body) r.kind r.tag none).congr

/-! ### The link port (R3, R10 to R14, R154) -/

theorem truncate : CountersSound s.truncate := by
  unfold State.truncate
  split
  · exact (CountersSound.congr (t := s.setAssembly .waiting) h).count _
  · exact h

theorem giveUpUpstream : CountersSound s.giveUpUpstream :=
  (h.count .repliesLost (finishedSlots s.dec.slots).length).congr rfl

theorem leaveUp : CountersSound s.leaveUp := by
  unfold State.leaveUp
  split
  · exact h.congr
  · exact h

theorem enterAbsent : CountersSound s.enterAbsent := by
  unfold State.enterAbsent
  exact h.leaveUp.truncate.giveUpUpstream.congr

theorem staleDiscard : CountersSound s.staleDiscard := by
  unfold State.staleDiscard
  exact CountersSound.count h.congr _ _

theorem resume : CountersSound s.resume := by
  unfold State.resume
  refine CountersSound.congr (s := State.staleDiscard _) (staleDiscard ?_) rfl
  exact h.congr rfl

theorem goodFrame : CountersSound s.goodFrame := by
  unfold State.goodFrame
  split
  · exact h.resume
  · exact h.resume
  · exact h.congr
  · exact h

theorem admission (f : RxFrame) : CountersSound (s.admission f) := by
  unfold State.admission State.admitFrame
  split
  · exact (h.count .overflow).setFlag .gap
  · dsimp only
    split <;> exact h.congr

theorem keepFrame (kind flags sequence : Byte) (payload : List Byte) :
    CountersSound (s.keepFrame kind flags sequence payload) := by
  unfold State.keepFrame
  dsimp only
  split
  · exact CountersSound.admission h.congr _
  · exact CountersSound.count h.congr _

theorem classify (kind flags sequence : Byte) (payload : List Byte) :
    CountersSound (s.classify kind flags sequence payload) := by
  unfold State.classify
  split
  · exact h.keepFrame _ _ _ _
  · dsimp only
    split
    · exact h.keepFrame _ _ _ _
    · split
      · exact ((h.count .gapFrames _).setFlag .gap).keepFrame _ _ _ _
      · exact (h.count .lateFrames).setFlag .gap

theorem endFrame (buffer : List Byte) : CountersSound (s.endFrame buffer) := by
  have hwaiting : CountersSound (s.setAssembly .waiting) := h.congr
  unfold State.endFrame
  dsimp only
  split
  · exact hwaiting.goodFrame.classify _ _ _ _
  · exact hwaiting.count _

/-! ### Keys (R138, R145, R151) -/

theorem queueKey (e : KeyEvent) : CountersSound (s.queueKey e) := by
  by_cases hfull : 32 ≤ s.keyq.events.length
  · rw [queueKey_full hfull]
    exact (h.count .keyOverrun).congr rfl
  · rw [queueKey_room (by omega)]
    exact h.congr

theorem makeAction (a : KeyAction) (e : KeyEvent) : CountersSound (s.makeAction a e) := by
  cases a with
  | key => exact h.queueKey e
  | lamp n => exact CountersSound.queueKey (s := s.toggleLamp n) h e
  | fn | ignore => exact h

theorem processMake (p : Nat) : CountersSound (s.processMake p) := by
  by_cases hi : (s.madeKey p).action = .ignore
  · rw [processMake_ignored hi]
    exact h.wake
  · by_cases hroom : s.keys.held.length < 10
    · have hjoined : CountersSound (s.setHeld (s.keys.held ++ [s.madeKey p])) := h.congr
      rw [processMake_joins hi hroom]
      exact (hjoined.makeAction _ _).wake
    · rw [processMake_overroll hi (by omega)]
      exact (h.count .overroll).wake

theorem processBreak (p : Nat) : CountersSound (s.processBreak p) := by
  cases hp : heldAt s.keys.held p with
  | none => rwa [processBreak_unheld hp]
  | some g =>
    rw [processBreak_held hp]
    split
    · exact (h.queueKey _).congr rfl
    · exact h.congr

theorem debouncedScan (raw : BitVec 128) :
    CountersSound ((acceptedMakes s.keys raw).foldl State.processMake
      ((acceptedBreaks s.keys raw).foldl State.processBreak (s.debounceScan raw))) :=
  List.foldlRecOn (motive := CountersSound) _ _
    (List.foldlRecOn (motive := CountersSound) _ _ (h.congr rfl) fun _ hu p _ => hu.processBreak p)
    fun _ hu p _ => hu.processMake p

end CountersSound

end Sys2Proof.Machine

namespace Sys2Proof.Machine

set_option Elab.async false

/-! # What every step keeps of the keys and the counters (R144, R150, R177) -/

/-! ## What leaves the keys as they are -/

/-- The raw matrix, the scan timer, the keymap and the lamps do not matter, nor do events that leave the queue. -/
theorem KeysSound.congr {s t : State} (h : KeysSound s) (hheld : t.keys.held = s.keys.held := by simp)
    (haccepted : t.keys.accepted = s.keys.accepted := by simp)
    (hcounters : t.keys.counters = s.keys.counters := by simp)
    (hdebounce : t.keys.debounce = s.keys.debounce := by simp)
    (hevents : t.keyq.events.length ≤ s.keyq.events.length := by simp) : KeysSound t where
  events := hevents.trans h.events
  held := hheld ▸ h.held
  once := hheld ▸ h.once
  pressed := by rw [hheld, haccepted]; exact h.pressed
  debounce := hdebounce ▸ h.debounce
  counters := hcounters ▸ h.counters

/-- A step from `s` to `t` keeps what holds of the keys, and what holds of the counters. -/
structure BoundsKept (s t : State) : Prop where
  keys : KeysSound s → KeysSound t := by exact fun h => h.congr
  counters : CountersSound s → CountersSound t := by exact fun h => h.congr

namespace BoundsKept

variable {s t u : State}

theorem trans (h : BoundsKept s u) (h' : BoundsKept u t := by exact {}) : BoundsKept s t :=
  ⟨h'.keys ∘ h.keys, h'.counters ∘ h.counters⟩

theorem live {e : State → State} (hx : live s e = .next t) (he : BoundsKept s (e s)) : BoundsKept s t :=
  live_keeps (P := BoundsKept s) hx {} fun _ => he

theorem onEvent {b : Bool} {e : State → State} (hx : onEvent s b e = .next t) (he : BoundsKept s (e s)) :
    BoundsKept s t :=
  onEvent_keeps (P := BoundsKept s) hx {} fun _ _ => he

/-! ## The taking of records (R27 to R35) -/

theorem advance (h : BoundsKept s u) (r : Record) : BoundsKept s (u.advance r) := h.trans

theorem setEngine (h : BoundsKept s u) (holder : Holder) (job : Option Job) : BoundsKept s (u.setEngine holder job) :=
  h.trans

theorem setWork (h : BoundsKept s u) (w : DigestWork) : BoundsKept s (u.setWork w) := h.trans

theorem refused (s : State) (f : RxFrame) (r : Record) (e : Reason) :
    BoundsKept s ((s.refuseRecord f r e).advance r) :=
  .advance { counters := fun h => h.refuse _ _ _ _ } r

theorem noteOutcome (s : State) (o : DrawOutcome) (k t : Byte) (q : Option Byte) :
    BoundsKept s (s.noteOutcome o k t q) := { counters := fun h => h.noteOutcome _ _ _ _ }

theorem finishJob (s : State) (job : Job) : BoundsKept s (s.finishJob job) := { counters := fun h => h.finishJob job }

theorem takeControl {code : Byte} {check : Record → Option Reason} {effect : Record → State → State}
    (he : ∀ r, BoundsKept s (effect r s)) : BoundsKept s (takeControl code check effect s) :=
  takeControl_keeps (P := BoundsKept s) {} (fun f r e _ _ => refused s f r e) fun _ r _ _ _ _ => (he r).advance r

theorem takePanel {a : PanelAction} {effect : Record → State → State} (he : ∀ r, BoundsKept s (effect r s)) :
    BoundsKept s (takePanel a effect s) :=
  takePanel_keeps (P := BoundsKept s) {} (takeControl he)

theorem takeDraw (s : State) (kind : DrawKind) : BoundsKept s (takeDraw kind s) :=
  takeDraw_keeps (P := BoundsKept s) {} (refused s) (fun _ _ _ _ => (noteOutcome s _ _ _ _).setEngine _ _)
    fun _ r _ => (noteOutcome s _ _ _ _).advance r

theorem answerOf (s : State) (code : Byte) (n : Nat) (f : RxFrame) (r : Record) :
    BoundsKept s (answerOf code n f r s) where
  keys h := by
    rcases answerOf_cases code with e | e | ⟨check, body, e⟩ | e <;> rw [e] <;> exact h.congr
  counters h := h.answerOf _ _ _ _

theorem takeAsk {code : Byte} {answer : Nat → RxFrame → Record → State → State}
    (ha : ∀ n f r u, BoundsKept u (answer n f r u)) : BoundsKept s (takeAsk code answer s) :=
  takeAsk_keeps (P := BoundsKept s) {} (refused s) (fun n f r => .advance (.trans {} (ha n f r _)) r) fun _ => {}

/-! ## Outage and power control (R101 to R105, R157 to R170) -/

theorem enterEntering (h : BoundsKept s u) : BoundsKept s u.enterEntering := h.trans

theorem checkMade (h : BoundsKept s u) (lost : List Nat) : BoundsKept s (u.checkMade lost) := h.trans

theorem bannerRead (h : BoundsKept s u) (cursor : Nat) : BoundsKept s (u.bannerRead cursor) :=
  h.trans { counters := fun h => h.bannerRead _ }

theorem endPlay (h : BoundsKept s u) : BoundsKept s u.endPlay := h.trans

theorem setOutage (hx : execSetOutage s = .next t) : BoundsKept s t := by
  refine live hx (takeControl fun r => ?_)
  have hlate : ∀ {u : State}, BoundsKept s u → BoundsKept s (if dozeExpired u then u.enterEntering else u) := by
    intro u hu
    split
    · exact hu.enterEntering
    · exact hu
  refine hlate ?_
  split <;> exact {}

theorem retentionCheckPaneDone (hx : execRetentionCheckPaneDone s = .next t) : BoundsKept s t := by
  refine onEvent hx ?_
  split
  next n lost _ =>
    have hmarked : ∀ b d, BoundsKept s (if b = true then s.setDigestState n d else s) := by
      intro b d
      split <;> exact {}
    dsimp only
    split
    · exact (hmarked _ _).setWork _
    · exact (hmarked _ _).checkMade _
  all_goals exact {}

theorem bannerRecordDone (hx : execBannerRecordDone s = .next t) : BoundsKept s t := by
  refine onEvent hx ?_
  split
  · have hdone : BoundsKept s (match s.engine.job with
        | some job => s.finishJob job
        | none => s) := by
      split
      · exact finishJob s _
      · exact {}
    dsimp only
    split
    · exact hdone.bannerRead _
    · exact hdone.endPlay
  · exact {}

/-! ## The link port and the keyboard (R10, R11, R137 to R154) -/

/-- A resume may discard stale events, and adds none (R154). -/
theorem resume_events_le (s : State) : s.resume.keyq.events.length ≤ s.keyq.events.length := by
  simp [State.resume, State.staleDiscard]

theorem goodFrame_events_le (s : State) : s.goodFrame.keyq.events.length ≤ s.keyq.events.length := by
  unfold State.goodFrame
  split
  · exact resume_events_le s
  · exact resume_events_le s
  all_goals exact le_rfl

theorem endFrame_events_le (s : State) (buffer : List Byte) :
    (s.endFrame buffer).keyq.events.length ≤ s.keyq.events.length := by
  unfold State.endFrame
  dsimp only
  split
  · simpa using goodFrame_events_le (s.setAssembly .waiting)
  · simp

theorem endFrame (s : State) (buffer : List Byte) : BoundsKept s (s.endFrame buffer) :=
  ⟨fun h => h.congr (hevents := endFrame_events_le s buffer), fun h => h.endFrame buffer⟩

theorem dataSymbol {b : Byte} (hx : execDataSymbol b s = .next t) : BoundsKept s t := by
  refine onEvent hx ?_
  split
  · exact {}
  · dsimp only
    split
    · exact {}
    · split
      · exact { counters := fun h => CountersSound.count h.congr _ }
      · split
        · exact {}
        · exact endFrame s _

theorem laneLockLost (hx : execLaneLockLost s = .next t) : BoundsKept s t := by
  refine onEvent hx ?_
  have htruncated : BoundsKept s (State.truncate { s with link := { s.link with laneLock := false } }) :=
    { counters := fun h => CountersSound.truncate h.congr }
  dsimp only
  split
  · exact htruncated.trans { counters := fun h => h.leaveUp.giveUpUpstream.congr }
  · exact htruncated

/-- The debounce count is clamped to its range (R140). -/
theorem setKeys (hx : execSetKeys s = .next t) : BoundsKept s t := by
  refine live hx (takeControl fun r => { keys := fun h => ⟨h.events, h.held, h.once, h.pressed, ?_, h.counters⟩ })
  dsimp only
  omega

theorem keyScan {raw : BitVec 128} (hx : execKeyScan raw s = .next t) : BoundsKept s t := by
  refine onEvent hx ?_
  dsimp only
  split
  · exact { counters := fun h => CountersSound.count h.congr _ }
  · exact ⟨fun h => h.debouncedScan raw, fun h => h.debouncedScan raw⟩

/-! ## The part's running on -/

theorem millisecond (s : State) : BoundsKept s s.engineRuns.scanRuns.timersRun where
  keys h := by
    have hran : KeysSound s.engineRuns.scanRuns := h.congr
    exact hran.congr rfl rfl rfl rfl le_rfl
  counters h := by
    have hran : CountersSound s.engineRuns.scanRuns := CountersSound.congr h.engineRuns
    exact hran.congr

theorem idle (s : State) : BoundsKept s s.idle :=
  idle_keeps (P := BoundsKept s) (fun _ _ h => h.trans) (fun u h => h.trans (millisecond u)) {}

end BoundsKept

theorem exec_boundsKept {c : Instr} {s t : State} (hx : exec c s = .next t) : BoundsKept s t := by
  cases c with
  | resetAssert =>
    injection hx with hx
    subst hx
    exact ⟨fun _ => reset_keysSound.congr, fun _ => reset_countersSound.congr⟩
  | resetRelease | presenceContactChange =>
    injection hx with hx
    subst hx
    split <;> exact {}
  | clearPassEnd =>
    rw [exec] at hx
    exact .onEvent hx { counters := fun h => (h.clearUpTo _).congr rfl }
  | presenceOpen =>
    rw [exec] at hx
    exact .onEvent hx { counters := fun h => CountersSound.enterAbsent h.congr }
  | startSymbol =>
    rw [exec] at hx
    exact .onEvent hx { counters := fun h => h.truncate.congr }
  | silenceTimeout | presenceClosed | bannerDelayExpiry | flowSymbolSend | keysFrameStart | noticeFrameStart
  | dozeTimerExpiry | powerUpEnd | powerDownEnd | frameEnd =>
    rw [exec] at hx
    exact .onEvent hx {}
  | laneLockGained | upstreamFrameEnd =>
    rw [exec] at hx
    exact .live hx {}
  | laneLockLost => exact .laneLockLost hx
  | dataSymbol b => exact .dataSymbol hx
  | frameTake | retentionPassStart =>
    rw [exec] at hx
    refine .onEvent hx ?_
    split <;> exact {}
  | oscillatorWaitEnd =>
    rw [exec] at hx
    refine .onEvent hx ?_
    dsimp only
    split <;> exact {}
  | replyFrameStart =>
    rw [exec] at hx
    refine .onEvent hx ?_
    (repeat' split) <;> exact {}
  | slotGranted =>
    rw [exec] at hx
    refine .live hx ?_
    split
    · split
      · exact .advance (.trans {} (.answerOf _ _ _ _ _)) _
      · exact {}
    all_goals exact {}
  | unknownRecord =>
    rw [exec] at hx
    refine .live hx ?_
    split
    · split
      · exact {}
      · exact .advance { counters := fun h => h.count _ } _
    · exact {}
  | brokenRecord =>
    rw [exec] at hx
    refine .onEvent hx ?_
    split
    · exact { counters := fun h => (h.count .malformed).congr }
    all_goals exact {}
  | fill | clear | glyph | planes | move | keymove =>
    rw [exec] at hx
    exact .live hx (.takeDraw _ _)
  | drawComplete =>
    rw [exec] at hx
    refine .onEvent hx ?_
    split
    · exact ((BoundsKept.finishJob s _).setEngine _ _).advance _
    · exact {}
  | loadPen | loadPalette | loadShade | loadKeymap | loadBanner | setBanner | backlight | lamps | setNotice =>
    rw [exec] at hx
    exact .live hx (.takeControl fun _ => ⟨fun h => h.congr rfl rfl rfl rfl le_rfl, fun h => h.congr rfl⟩)
  | loadPane =>
    rw [exec] at hx
    exact .live hx (.takeControl fun _ =>
      ⟨fun h => h.congr (by simp [loadPaneEffect]) (by simp [loadPaneEffect]) (by simp [loadPaneEffect])
        (by simp [loadPaneEffect]) (by simp [loadPaneEffect]), fun h => CountersSound.forgetPane h.congr _⟩)
  | setView =>
    rw [exec] at hx
    refine .live hx (.takeControl fun _ => ?_)
    unfold setViewEffect
    split <;> exact {}
  | setLink =>
    rw [exec] at hx
    refine .live hx (.takeControl fun _ => ?_)
    dsimp only
    split <;> exact {}
  | setKeys => exact .setKeys hx
  | setOutage => exact .setOutage hx
  | doze =>
    rw [exec] at hx
    refine .live hx (.takeControl fun _ => ?_)
    split <;> exact {}
  | reset =>
    rw [exec] at hx
    exact .live hx (.takeControl fun _ => { counters := fun _ => countersSound_of_zero rfl })
  | clearCounts =>
    rw [exec] at hx
    exact .live hx (.takeControl fun _ => { counters := fun _ => countersSound_of_zero rfl })
  | panelStart | panelStop | panelFull | panelPartial | panelIdleOn | panelIdleOff | panelShow | panelBlank =>
    rw [exec] at hx
    exact .live hx (.takePanel fun _ => {})
  | askCell | askTable | askId =>
    rw [exec] at hx
    exact .live hx (.takeAsk fun _ _ _ _ =>
      ⟨fun h => KeysSound.congr (t := answerWith _ _ _ _ _ _) h, fun h => h.answerWith _ _ _ _ _⟩)
  | askStatus =>
    rw [exec] at hx
    exact .live hx (.takeAsk fun _ _ _ _ => { counters := fun h => h.answerStatus _ _ _ })
  | askDigest =>
    rw [exec] at hx
    exact .live hx (.takeAsk fun _ _ _ _ => { counters := fun h => h.answerDigest _ _ _ })
  | digestRunEnd =>
    rw [exec] at hx
    refine .live hx ?_
    split
    · exact { counters := fun h => CountersSound.digestGoOn h.congr }
    · exact {}
  | retentionPassPaneDone =>
    rw [exec] at hx
    refine .live hx ?_
    split
    · dsimp only
      split <;> exact {}
    all_goals exact {}
  | retentionCheckPaneDone => exact .retentionCheckPaneDone hx
  | retentionClearPaneDone =>
    rw [exec] at hx
    refine .onEvent hx ?_
    split
    next job _ _ =>
      have hpainted : BoundsKept s (s.paint job job.todo) := { counters := fun h => h.paint _ _ }
      dsimp only
      split <;> exact hpainted.trans
    · exact {}
  | bannerGrant =>
    rw [exec] at hx
    refine .onEvent hx ?_
    dsimp only
    split
    · exact {}
    · exact { counters := fun h => CountersSound.bannerRead h.congr 0 }
  | bannerRecordDone => exact .bannerRecordDone hx
  | keyScan raw => exact .keyScan hx
  | recomputeStep =>
    rw [exec] at hx
    refine .live hx ?_
    split <;> exact {}
  | dozePixelLoss x y v =>
    rw [exec, execDozePixelLoss] at hx
    split at hx
    · exact .onEvent hx {}
    · cases hx

/-- Settles O59: each command, and the part's running on, keeps both. -/
theorem stepsKeepKeysAndCounters : Obligations.StepsKeepKeysAndCounters := by
  have hstep : ∀ s t : State, step s = .next t → BoundsKept s t := fun s t hx =>
    step_keeps (P := BoundsKept s) (fun _ _ h => h.trans) (fun u h => h.trans (.idle u))
      (fun _ _ _ h hx => h.trans (exec_boundsKept hx)) {} hx
  exact ⟨fun s t h hx => (hstep s t hx).keys h, fun s t h hx => (hstep s t hx).counters h⟩

end Sys2Proof.Machine

namespace Sys2Proof.Machine

/-- Settles O1: a waiting command selects the second branch of `step`; `step_idle` is its counterpart for the empty
queue. -/
theorem stepRunsFrontCommand : Obligations.StepRunsFrontCommand := by
  intro s c rest hfront
  simp only [step, hfront]

end Sys2Proof.Machine
